-- ==== Sys2Proof/Word.lean ====
section
/-! DEFINITION. The word types of the FW4120 (spec/00_scope.md, section 1.7): bytes of the serial window, 16-bit halves and
32-bit words of records. -/

namespace Sys2Proof

/-- One byte of the register window. -/
abbrev Byte := BitVec 8

/-- One 16-bit half of a record word. -/
abbrev Half := BitVec 16

/-- A word is 32 bits (section 1.7). -/
abbrev Word := BitVec 32

end Sys2Proof
end

