-- ==== Sys2Proof/Syntax.lean ====
section
/-! DEFINITION. The commands of the FW4120: one constructor for each row of spec/opcode_table.json, with its operands
(INVENTORY.md, Instructions). -/

namespace Sys2Proof

/-- The two event outputs EVA_N and EVB_N. -/
inductive EventPin where
  | a
  | b
deriving DecidableEq, Repr

/-- The commands. A byte operand is the byte that arrives in a byte slot of a write transaction; for the command rows it is
the second byte of COMMAND, the argument. -/
inductive Instr where
  /-- LINK_FRAME: the rising edge of LCK with LFS low and this level of LDA that brings the 32nd bit (R1). -/
  | linkFrame (lda : Bool)
  /-- FRAME_TRUNCATED: a rising edge of LCK with LFS high while a frame is in progress (R2). -/
  | frameTruncated (lda : Bool)
  /-- SAMPLE_ENTRY_GROUP: the fourth byte of a group (R10). -/
  | sampleEntryGroup (b : Byte)
  /-- ENGINE_TAKE: the idle engine takes the oldest entry (R15). -/
  | engineTake
  /-- ACCUMULATION: the engine completes its entry (R19). -/
  | accumulation
  /-- SECOND_EVENT (R39). -/
  | secondEvent
  /-- SECOND_MARKER_RISE (R45). -/
  | secondMarkerRise
  /-- BUILD stage (R83). -/
  | build
  /-- CREDIT stage (R85). -/
  | credit
  /-- STORE stage and completion (R86, R87). -/
  | store
  /-- COMMAND_HANDOVER (R175). -/
  | commandHandover
  /-- CSN_FALL (R166). -/
  | csnFall
  /-- CSN_RISE (R166). -/
  | csnRise
  /-- RECORD_DATA_READ: one byte slot of a read transaction (R109; log 5). -/
  | recordDataRead
  /-- PAGE_WRITE (R171). -/
  | pageWrite (b : Byte)
  /-- SLOT_SELECT_WRITE (R171). -/
  | slotSelectWrite (b : Byte)
  /-- STAGED_FIELD_WRITE: the last byte of a staged field (R133, R134). -/
  | stagedFieldWrite (b : Byte)
  /-- CAUSE_CLEAR: its second byte (R157). -/
  | causeClear (b : Byte)
  /-- MASK_WRITE: the second byte of a mask (R159). -/
  | maskWrite (b : Byte)
  /-- MODE_WRITE (R159). -/
  | modeWrite (b : Byte)
  /-- QUEUE_POLICY_WRITE (R106). -/
  | queuePolicyWrite (b : Byte)
  /-- LEVEL_THRESHOLD_WRITE (R106). -/
  | levelThresholdWrite (b : Byte)
  /-- SNAP_ITEM_WRITE: its second byte (R126). -/
  | snapItemWrite (b : Byte)
  /-- READ_ONLY_WRITE (R170). -/
  | readOnlyWrite (b : Byte)
  /-- REGISTER_WRITE: a time load field (R50, R169). -/
  | registerWrite (b : Byte)
  /-- TIME_LOAD (R52). -/
  | timeLoad (arg : Byte)
  /-- TIME_TRIM, with its signed argument (R53). -/
  | timeTrim (arg : Byte)
  /-- CONFIG_COMMIT with any argument but 1: AT_NEXT is argument 0, and 2 to 255 complete BAD_ARG (R137). -/
  | configCommitAtNext (arg : Byte)
  /-- CONFIG_COMMIT with argument 1, NOW (R138). -/
  | configCommitNow
  /-- CONFIG_CANCEL (R140). -/
  | configCancel (arg : Byte)
  /-- CONFIG_FETCH (R141). -/
  | configFetch (arg : Byte)
  /-- FORCE_CLOSE (R76). -/
  | forceClose (arg : Byte)
  /-- SNAPSHOT (R125). -/
  | snapshot (arg : Byte)
  /-- TOTALS_CLEAR (R123). -/
  | totalsClear (arg : Byte)
  /-- DEMAND_RESET (R124). -/
  | demandReset (arg : Byte)
  /-- RECORD_OPEN (R107, R108). -/
  | recordOpen (arg : Byte)
  /-- RECORD_RELEASE (R112). -/
  | recordRelease (arg : Byte)
  /-- QUEUE_FLUSH (R113). -/
  | queueFlush (arg : Byte)
  /-- SOFT_RESET (R178). -/
  | softReset (arg : Byte)
  /-- UNKNOWN_COMMAND: a command code of 0 or 14 to 255 (R174). -/
  | unknownCommand (arg : Byte)
  /-- BACKUP_ENTRY: VDD falls below VDET with VBAK present (R144). -/
  | backupEntry
  /-- SETTLING_START: VDD rises to VDET or above in BACKUP (R144). -/
  | settlingStart
  /-- SETTLING_ABORT: VDD falls below VDET during settling (R144). -/
  | settlingAbort
  /-- BACKUP_RETURN: the settling count reaches 8192 (R151). -/
  | backupReturn
  /-- SUPPLY_LOSS: both supplies absent (R145). -/
  | supplyLoss
  /-- COLD_START: power after both supplies were absent; vddOk says whether VDD is found at or above VDET (R145). -/
  | coldStart (vddOk : Bool)
  /-- PULSE_START of one output (R161). -/
  | pulseStart (pin : EventPin)
  /-- PULSE_END of one output (R161). -/
  | pulseEnd (pin : EventPin)
  /-- LINK_BIT: a rising edge of LCK with these levels of LFS and LDA (R1). -/
  | linkBit (lfs lda : Bool)
  /-- ADDRESS_BYTE: the first byte slot of a transaction (R166). -/
  | addressByte (b : Byte)
  /-- SAMPLE_ENTRY_BYTE: the first, second or third byte of a group (R9). -/
  | sampleEntryByte (b : Byte)
  /-- FIELD_LATCH_BYTE: a byte of a multi-byte field that does not complete it (R169). -/
  | fieldLatchByte (b : Byte)
  /-- RECORD_MEMORY_FAULT: the bits of flips change in the word at this address of the record memory (R98). -/
  | recordMemoryFault (address : BitVec 11) (flips : Word)
  /-- OSCILLATOR_STOP (R39). -/
  | oscillatorStop
  /-- OSCILLATOR_RESTART (R39). -/
  | oscillatorRestart
deriving DecidableEq, Repr

end Sys2Proof
end

