-- ==== Sys2Proof/Config.lean ====
section
/-! DEFINITION. What the FW4120 fixes (Table 2 and the rules named) and the free values: constants WITHOUT a body, of which
nothing can be proved, for what the spec leaves open. -/

namespace Sys2Proof.Config

/-- Entries of the sample queue (R13). -/
abbrev queueDepth : Nat := 32

/-- Words of the record memory (R97). -/
abbrev memoryWords : Nat := 2048

/-- Crystal periods of a second (R39). -/
abbrev phasePeriods : Nat := 32768

/-- The phase at which the second marker rises (R45). -/
abbrev markerRise : Nat := 16384

/-- Crystal periods of settling before backup return (R144). -/
abbrev settlePeriods : Nat := 8192

/-- FREE VALUE (log 4): of a second event and another event of the same crystal period, whether the second event is taken
first. R151 gives the outcome of both orders and does not say which is taken. -/
opaque secondEventFirst : Nat → Bool

/-- FREE VALUE (log 6): the bytes of "last sequence" in a snapshot image whose last sequence is none (R125, R126). -/
opaque sequenceOfNone : Nat → BitVec 16

end Sys2Proof.Config
end

