-- ==== Sys2Proof/Machine/State.lean ====
section
/-! DEFINITION. The state of the FW4120, as plain data, block by block (INVENTORY.md, State), the two reason types, and the
state right after a cold start with VDD at or above VDET. -/

namespace Sys2Proof.Machine

/-- No condition of the spec stops the device, so no meaning faults: a closed type without constructors (safe). -/
inductive Fault where
deriving DecidableEq, Repr

/-- Reasons to answer no state. -/
inductive Refusal where
  /-- Raised by a dispatch arm whose command has no meaning yet; no arm raises it (safe: the machine stops). -/
  | notModelled (mnemonic : String)
deriving DecidableEq, Repr

/-- What a meaning answers. -/
abbrev Answer (σ : Type) := Host.Outcome σ Fault Refusal

/-! ### Calendar instants and stamps -/

/-- A calendar instant (R40); `year` is the year less 2000. -/
structure DateTime where
  year : Nat
  month : Nat
  day : Nat
  hour : Nat
  minute : Nat
  second : Nat
deriving DecidableEq, Repr

/-- A stamp is a time to the minute (section 1.7). -/
structure Stamp where
  year : Nat
  month : Nat
  day : Nat
  hour : Nat
  minute : Nat
deriving DecidableEq, Repr

/-- The start stamp of an instant. -/
def DateTime.stamp (t : DateTime) : Stamp := ⟨t.year, t.month, t.day, t.hour, t.minute⟩

/-- 2000-01-01 00:00:00. -/
def DateTime.origin : DateTime := ⟨0, 1, 1, 0, 0, 0⟩

/-! ### Names -/

/-- The two accumulator banks; a tag names one of them (R13). -/
inductive Tag where
  | a
  | b
deriving DecidableEq, Repr

/-- The state of a bank (R73). -/
inductive BankState where
  | free
  | opened
  | closing
deriving DecidableEq, Repr

/-- The close stage (R81, Table 33). -/
inductive Stage where
  | idle
  | drain
  | build
  | credit
  | store
deriving DecidableEq, Repr

/-- The supply state (R144) and the absent state in which a loss of both supplies ends (R145). -/
inductive SupplyState where
  | main
  | backup
  | absent
deriving DecidableEq, Repr

/-- The start cause (R144). -/
inductive StartCause where
  | cold
  | returned
deriving DecidableEq, Repr

/-- The backup boundary state (R147). -/
inductive BackupBoundary where
  | noneTaken
  | taken
deriving DecidableEq, Repr

/-- The read status of the record queue (Table 39). -/
inductive ReadStatus where
  | noRecord
  | reading
  | checkOk
  | checkBad
  | pastEnd
deriving DecidableEq, Repr

/-- Record kinds (R98). -/
inductive RecordKind where
  | interval
  | gap
deriving DecidableEq, Repr

/-- The tables that the config fault field names (R136). -/
inductive FaultTable where
  | none
  | length
  | channels
  | dayTypeMap
  | defaultTariff
  | schedule
  | specialDays
deriving DecidableEq, Repr

/-- The pages of the register window (R171). -/
inductive Page where
  | live
  | channels
  | schedule
  | specialDays
  | snapshot
deriving DecidableEq, Repr

/-- The modes of an event output (R159). -/
inductive OutputMode where
  | off
  | level
  | pulse
  | marker
deriving DecidableEq, Repr

/-- The pulse state of an output (R161): IDLE, REQUESTED, or LOW with 2 or 1 crystal periods remaining. -/
inductive Pulse where
  | idle
  | requested
  | low2
  | low1
deriving DecidableEq, Repr

/-- The twelve causes of Table 54, in the order of their positions. -/
inductive Cause where
  | boundary
  | queueLevel
  | queueLoss
  | sampleDrop
  | linkError
  | accOvf
  | checkBad
  | cmdDone
  | configApplied
  | supply
  | timeInvalid
  | windowFault
deriving DecidableEq, Repr

/-- The commands of Table 59. -/
inductive Cmd where
  | timeLoad
  | timeTrim
  | configCommit
  | configCancel
  | configFetch
  | forceClose
  | snapshot
  | totalsClear
  | demandReset
  | recordOpen
  | recordRelease
  | queueFlush
  | softReset
deriving DecidableEq, Repr

/-- The result codes of R173. -/
inductive CmdResult where
  | ok
  | pending
  | badArg
  | busy
  | empty
  | noHold
  | noPending
  | crosses
  | frozen
  | aborted
  | unknown
deriving DecidableEq, Repr

/-- The transaction state (R166), with the state in which the rest of a transaction is ignored after SOFT_RESET (R178). -/
inductive Txn where
  | idle
  | address
  | data
  | ignoring
deriving DecidableEq, Repr

/-! ### Configuration (R130) -/

/-- A channel table entry as its bytes (Table 48); a one-byte field is held as written. -/
structure ChannelEntry where
  enabled : Byte
  source : Byte
  mode : Byte
  overflow : Byte
  rounding : Byte
  offset : BitVec 24
  gain : BitVec 16
deriving DecidableEq, Repr

/-- A schedule entry slot (R59). -/
structure SchedSlot where
  used : Byte
  dayType : Byte
  hour : Byte
  minute : Byte
  tariff : Byte
deriving DecidableEq, Repr

/-- A special-day slot (R60). -/
structure SpecSlot where
  used : Byte
  month : Byte
  day : Byte
  yearPresent : Byte
  year : Byte
  dayType : Byte
deriving DecidableEq, Repr

/-- The configuration set (Table 47). -/
structure ConfigSet where
  lengthCode : Byte
  channels : Vector ChannelEntry 6
  dayTypes : Vector Byte 7
  defaultTariff : Byte
  schedule : Vector SchedSlot 20
  specials : Vector SpecSlot 16
deriving DecidableEq, Repr

/-- The configuration store (R131); `commitPending` is the pending indication, the freeze and COMMIT_PENDING. -/
structure ConfigStore where
  staged : ConfigSet
  active : ConfigSet
  commitPending : Bool
  fault : FaultTable × Nat
deriving DecidableEq, Repr

/-! ### Banks (R74) -/

/-- The six flags of an interval (Table 32). -/
structure IntervalFlags where
  short : Bool
  power : Bool
  timeset : Bool
  forced : Bool
  config : Bool
  timeInv : Bool
deriving DecidableEq, Repr

/-- The per-channel state of an enabled channel (R20). -/
structure ChanState where
  acc : BitVec 48
  count : BitVec 16
  accOvf : Bool
  inSat : Bool
  unpaired : Bool
deriving DecidableEq, Repr

/-- An accumulator bank (Table 32); `start` is the start stamp with the start second. -/
structure Bank where
  state : BankState
  start : DateTime
  nominal : Nat
  endBoundary : DateTime
  tariff : Fin 4
  flags : IntervalFlags
  covered : BitVec 12
  dropped : BitVec 12
  rejected : BitVec 8
  gaps : BitVec 8
  copy : Vector ChannelEntry 6
  chans : Vector (Option ChanState) 6
deriving DecidableEq, Repr

/-! ### Records (R98) -/

/-- A channel entry of a record. -/
structure RecordEntry where
  channel : Fin 6
  accOvf : Bool
  inSat : Bool
  unpaired : Bool
  count : BitVec 16
  value : BitVec 48
deriving DecidableEq, Repr

/-- A record (Table 37); the channel count is the number of its entries. -/
structure Record where
  kind : RecordKind
  flags : IntervalFlags
  tariff : Fin 4
  sequence : BitVec 16
  stamp : Stamp
  nominal : Nat
  covered : BitVec 12
  dropped : BitVec 12
  rejected : BitVec 8
  gaps : BitVec 8
  lostBefore : BitVec 12
  missed : BitVec 16
  check : BitVec 16
  entries : List RecordEntry
deriving DecidableEq, Repr

/-! ### Interval controller -/

/-- A deferred boundary (R88), with the backup boundary state it found (R147). -/
structure Deferred where
  instant : DateTime
  calValid : Bool
  handedIn : SupplyState
  found : BackupBoundary
deriving DecidableEq, Repr

/-- The first-missed record (R148). -/
structure FirstMissed where
  stamp : Stamp
  nominal : Nat
  timeInv : Bool
deriving DecidableEq, Repr

/-- The interval controller (R81, R84, R88, R147, R148, R150; the mark `anyBuilt` R125). -/
structure IntervalController where
  stage : Stage
  built : Option Record
  deferred : Option Deferred
  nextSeq : BitVec 16
  anyBuilt : Bool
  backupBoundary : BackupBoundary
  missed : BitVec 16
  firstMissed : Option FirstMissed
  gapDue : Bool
deriving DecidableEq, Repr

/-! ### Record queue -/

/-- The record memory: word addresses and words, in canonical form (INVENTORY.md, Memory and ordering). -/
abbrev RecordMemory := List (Nat × Word)

/-- The record queue (R97, R104, R106, R107); `lens` is the model's own (log 7). -/
structure RecordQueue where
  mem : RecordMemory
  head : Nat
  tail : Nat
  count : Nat
  used : Nat
  lens : List Nat
  lost : BitVec 12
  overwrite : Bool
  threshold : Byte
  hold : Bool
  readStatus : ReadStatus
  readPtr : Nat
  runningSum : Half
deriving DecidableEq, Repr

/-! ### Totals and demand -/

/-- A tariff total (R118). -/
structure Total where
  value : BitVec 64
  ovf : Bool
deriving DecidableEq, Repr

/-- A present demand entry (Table 43). -/
structure DemandEntry where
  value : BitVec 48
  stamp : Stamp
  ovf : Bool
deriving DecidableEq, Repr

/-- The totals table: channel, then tariff. -/
abbrev TotalsTable := Vector (Vector Total 4) 6

/-- The demand table: channel, then tariff; an absent entry is none. -/
abbrev DemandTable := Vector (Vector (Option DemandEntry) 4) 6

/-- The snapshot image (Table 44). -/
structure SnapshotImage where
  valid : Bool
  time : DateTime
  calValid : Bool
  lastSeq : BitVec 16
  lastSeqNone : Bool
  totals : TotalsTable
  demand : DemandTable
deriving DecidableEq, Repr

/-! ### Event unit -/

/-- One event output (R159, R161, R163). -/
structure EventOutput where
  mask : BitVec 12
  mode : OutputMode
  pulse : Pulse
  returnMark : Bool
deriving DecidableEq, Repr

/-- The event unit (R156, R159): bit p of `pending` is the cause at position p. -/
structure EventUnit where
  pending : BitVec 12
  a : EventOutput
  b : EventOutput
deriving DecidableEq, Repr

/-! ### Main domain -/

/-- The frame shift state (R1): while SHIFTING, the count of bits received and those bits. -/
inductive Shift where
  | hunt
  | shifting (count : Nat) (bits : Word)
deriving DecidableEq, Repr

/-- The link receiver (R1, R4). -/
structure Link where
  shift : Shift
  expected : BitVec 3
  resyncPending : Bool
deriving DecidableEq, Repr

/-- A sample queue entry (Table 10). -/
structure Sample where
  channel : Fin 6
  value : BitVec 24
  tag : Tag
deriving DecidableEq, Repr

/-- A present latest-value table entry (Table 15). -/
structure Latest where
  value : BitVec 24
  tag : Tag
deriving DecidableEq, Repr

/-- The field latch (R169): the first address of the field being written and its bytes so far. -/
structure Latch where
  start : Nat
  bytes : List Byte
deriving DecidableEq, Repr

/-- The window controller (R166, R168, R169, R171, R109). -/
structure Window where
  txn : Txn
  pointer : BitVec 7
  reading : Bool
  page : Page
  schedSlot : Fin 20
  specSlot : Fin 16
  latch : Option Latch
  capture : Option Latch
  calImage : Option (List Byte)
  wordPos : Nat
  sdo : Option Byte
deriving DecidableEq, Repr

/-- The command unit (R174, R177): `waiting` is none in IDLE. -/
structure CommandUnit where
  waiting : Option (Cmd × Byte)
  resultCode : Byte
  result : CmdResult
deriving DecidableEq, Repr

/-- The time load fields (R50). -/
structure TimeLoadFields where
  year : Byte
  month : Byte
  day : Byte
  hour : Byte
  minute : Byte
  second : Byte
deriving DecidableEq, Repr

/-- The main domain (section 1.4). -/
structure MainDomain where
  link : Link
  group : List Byte
  samples : List Sample
  engine : Option Sample
  latest : Vector (Option Latest) 6
  image : SnapshotImage
  snapItem : Fin 6 × Fin 4
  timeLoad : TimeLoadFields
  win : Window
  cmd : CommandUnit
deriving DecidableEq, Repr

/-! ### Supplies and calendar -/

/-- The supply monitor (R144, R146); `coldIntoBackup` is the model's own (log 22). -/
structure Monitor where
  supply : SupplyState
  vddOk : Bool
  settling : Nat
  startCause : StartCause
  coldIntoBackup : Bool
  abandonMark : Option Byte
deriving DecidableEq, Repr

/-- The calendar (R39, R40, R42, R44). -/
structure Calendar where
  time : DateTime
  dayOfWeek : Nat
  phase : Nat
  valid : Bool
deriving DecidableEq, Repr

/-- The whole device. -/
structure State where
  pending : List Instr
  freeCount : Nat
  oscRunning : Bool
  csnHigh : Bool
  monitor : Monitor
  cal : Calendar
  bankA : Bank
  bankB : Bank
  ic : IntervalController
  cfg : ConfigStore
  queue : RecordQueue
  totals : TotalsTable
  demand : DemandTable
  events : EventUnit
  main : MainDomain
deriving DecidableEq, Repr

/-! ### Cold-start values -/

/-- The default channel entry (R131): disabled, LINK, SUM, SATURATE, NEAREST, offset 0, gain 32767. -/
def ChannelEntry.default : ChannelEntry := ⟨0, 0, 0, 0, 1, 0, 32767⟩

/-- The default configuration set (R131). -/
def ConfigSet.default : ConfigSet where
  lengthCode := 4
  channels := Vector.replicate 6 ChannelEntry.default
  dayTypes := Vector.replicate 7 0
  defaultTariff := 0
  schedule := Vector.replicate 20 ⟨0, 0, 0, 0, 0⟩
  specials := Vector.replicate 16 ⟨0, 0, 0, 0, 0, 0⟩

/-- No flag set. -/
def IntervalFlags.none : IntervalFlags := ⟨false, false, false, false, false, false⟩

/-- A bank with every field 0 (R96, bank B at cold start). -/
def Bank.zero : Bank where
  state := .free
  start := ⟨0, 0, 0, 0, 0, 0⟩
  nominal := 0
  endBoundary := ⟨0, 0, 0, 0, 0, 0⟩
  tariff := 0
  flags := .none
  covered := 0
  dropped := 0
  rejected := 0
  gaps := 0
  copy := Vector.replicate 6 ⟨0, 0, 0, 0, 0, 0, 0⟩
  chans := Vector.replicate 6 Option.none

/-- Bank A after a cold start (R96). -/
def Bank.coldOpen (power : Bool) : Bank where
  state := .opened
  start := .origin
  nominal := 15
  endBoundary := ⟨0, 1, 1, 0, 15, 0⟩
  tariff := 0
  flags := { IntervalFlags.none with power := power, timeInv := true }
  covered := 0
  dropped := 0
  rejected := 0
  gaps := 0
  copy := Vector.replicate 6 ChannelEntry.default
  chans := Vector.replicate 6 Option.none

/-- The record queue at cold start (R117), which gives no value for the memory (log 8), the read pointer and the running sum (log 9). -/
def RecordQueue.cold : RecordQueue where
  mem := []
  head := 0
  tail := 0
  count := 0
  used := 0
  lens := []
  lost := 0
  overwrite := false
  threshold := 0
  hold := false
  readStatus := .noRecord
  readPtr := 0
  runningSum := 0

/-- Every total 0 with TOT_OVF clear (R128). -/
def TotalsTable.zero : TotalsTable := Vector.replicate 6 (Vector.replicate 4 ⟨0, false⟩)

/-- Every demand entry absent (R128). -/
def DemandTable.absent : DemandTable := Vector.replicate 6 (Vector.replicate 4 Option.none)

/-- The invalid snapshot image (R128); its other parts read 0 (R126), and what they hold meanwhile is the model's choice (log 9). -/
def SnapshotImage.invalid : SnapshotImage where
  valid := false
  time := ⟨0, 0, 0, 0, 0, 0⟩
  calValid := false
  lastSeq := 0
  lastSeqNone := false
  totals := .zero
  demand := .absent

/-- The interval controller at cold start (R96, R150, R125). -/
def IntervalController.cold : IntervalController where
  stage := .idle
  built := Option.none
  deferred := Option.none
  nextSeq := 0
  anyBuilt := false
  backupBoundary := .noneTaken
  missed := 0
  firstMissed := Option.none
  gapDue := false

/-- The link receiver at cold start, at SOFT_RESET and at backup return (R8). -/
def Link.start : Link := ⟨.hunt, 0, true⟩

/-- The window controller at cold start and at backup return (R171); the direction is the model's choice (log 11). -/
def Window.start : Window where
  txn := .idle
  pointer := 0
  reading := false
  page := .live
  schedSlot := 0
  specSlot := 0
  latch := Option.none
  capture := Option.none
  calImage := Option.none
  wordPos := 0
  sdo := Option.none

/-- The main domain as it starts: at cold start and at backup return (R8, R12, R16, R25, R35, R50, R128, R171, R179). -/
def MainDomain.start : MainDomain where
  link := .start
  group := []
  samples := []
  engine := Option.none
  latest := Vector.replicate 6 Option.none
  image := .invalid
  snapItem := (0, 0)
  timeLoad := ⟨0, 0, 0, 0, 0, 0⟩
  win := .start
  cmd := ⟨Option.none, 0, .ok⟩

/-- The event unit at cold start: TIME_INVALID alone, EVA_N in MARKER, EVB_N in OFF, empty masks (R159, R161, R163). -/
def EventUnit.cold : EventUnit where
  pending := 0x400
  a := ⟨0, .marker, .idle, false⟩
  b := ⟨0, .off, .idle, false⟩

/-- The state right after reset: a cold start with VDD at or above VDET (R145), CSN high, the oscillator running. -/
def State.reset : State where
  pending := []
  freeCount := 0
  oscRunning := true
  csnHigh := true
  monitor := ⟨.main, true, 0, .cold, false, Option.none⟩
  cal := ⟨.origin, 5, 0, false⟩
  bankA := Bank.coldOpen false
  bankB := Bank.zero
  ic := .cold
  cfg := ⟨.default, .default, false, (.none, 0)⟩
  queue := .cold
  totals := .zero
  demand := .absent
  events := .cold
  main := .start

end Sys2Proof.Machine
end

