-- ==== Sys2Proof/Machine/Calendar.lean ====
section
/-! DEFINITION. Date arithmetic (R40 to R43), boundaries (R46, R48) and the trimmed time (R54, R55), on instants alone. -/

namespace Sys2Proof.Machine

/-- A year is a leap year when it is divisible by 4 (R41); `year` is the year less 2000. -/
def isLeap (year : Nat) : Bool := year % 4 == 0

/-- Table 22. -/
def monthLength (year month : Nat) : Nat :=
  match month with
  | 2 => if isLeap year then 29 else 28
  | 4 | 6 | 9 | 11 => 30
  | _ => 31

/-- Table 23: days of a year before the first of a month. -/
def daysBefore (year month : Nat) : Nat :=
  let leap := if isLeap year then 1 else 0
  match month with
  | 1 => 0
  | 2 => 31
  | 3 => 59 + leap
  | 4 => 90 + leap
  | 5 => 120 + leap
  | 6 => 151 + leap
  | 7 => 181 + leap
  | 8 => 212 + leap
  | 9 => 243 + leap
  | 10 => 273 + leap
  | 11 => 304 + leap
  | _ => 334 + leap

/-- Days elapsed since 2000-01-01 (R42). -/
def dayCount (t : DateTime) : Nat :=
  365 * t.year + (t.year + 3) / 4 + daysBefore t.year t.month + (t.day - 1)

/-- The day of the week, 0 for Monday (R42). -/
def dayOfWeek (t : DateTime) : Nat := (dayCount t + 5) % 7

/-- A real date and time of the calendar range (R40). -/
def DateTime.valid (t : DateTime) : Bool :=
  t.year ≤ 99 && 1 ≤ t.month && t.month ≤ 12 && 1 ≤ t.day && t.day ≤ monthLength t.year t.month
    && t.hour ≤ 23 && t.minute ≤ 59 && t.second ≤ 59

/-- 2099-12-31 23:59:59, the last second of the range. -/
def DateTime.last : DateTime := ⟨99, 12, 31, 23, 59, 59⟩

/-- A carry into the day (R41), with the wrap from 2099 (R43). -/
def carryDay (t : DateTime) : DateTime :=
  if t.day < monthLength t.year t.month then { t with day := t.day + 1 }
  else if t.month < 12 then { t with day := 1, month := t.month + 1 }
  else if t.year < 99 then { t with day := 1, month := 1, year := t.year + 1 }
  else { t with day := 1, month := 1, year := 0 }

/-- A carry into the hour (R40). -/
def carryHour (t : DateTime) : DateTime :=
  if t.hour < 23 then { t with hour := t.hour + 1 } else carryDay { t with hour := 0 }

/-- A carry into the minute (R40). -/
def carryMinute (t : DateTime) : DateTime :=
  if t.minute < 59 then { t with minute := t.minute + 1 } else carryHour { t with minute := 0 }

/-- The time one second later (R40, R41, R43). -/
def nextSecond (t : DateTime) : DateTime :=
  if t.second < 59 then { t with second := t.second + 1 } else carryMinute { t with second := 0 }

/-- A borrow from the day. -/
def borrowDay (t : DateTime) : DateTime :=
  if 1 < t.day then { t with day := t.day - 1 }
  else if 1 < t.month then { t with month := t.month - 1, day := monthLength t.year (t.month - 1) }
  else if 0 < t.year then { t with year := t.year - 1, month := 12, day := 31 }
  else { t with year := 99, month := 12, day := 31 }

/-- A borrow from the hour. -/
def borrowHour (t : DateTime) : DateTime :=
  if 0 < t.hour then { t with hour := t.hour - 1 } else borrowDay { t with hour := 23 }

/-- A borrow from the minute. -/
def borrowMinute (t : DateTime) : DateTime :=
  if 0 < t.minute then { t with minute := t.minute - 1 } else borrowHour { t with minute := 59 }

/-- The time one second earlier, "the corresponding borrows" of R54. -/
def prevSecond (t : DateTime) : DateTime :=
  if 0 < t.second then { t with second := t.second - 1 } else borrowMinute { t with second := 59 }

/-- `step` taken n times. -/
def iterate (step : DateTime → DateTime) : Nat → DateTime → DateTime
  | 0, t => t
  | n + 1, t => iterate step n (step t)

/-- The time moved by a signed number of seconds, with carries or borrows (R54). -/
def shiftSeconds (t : DateTime) (n : Int) : DateTime :=
  if 0 ≤ n then iterate nextSecond n.toNat t else iterate prevSecond (-n).toNat t

/-- Seconds since 2000-01-01 00:00:00, by which two instants are compared (R54). -/
def DateTime.seconds (t : DateTime) : Nat :=
  ((dayCount t * 24 + t.hour) * 60 + t.minute) * 60 + t.second

/-- The end boundary as an instant to compare with: 2000-01-01 00:00:00 stands for the instant after 2099-12-31 23:59:59
(R48, R54). -/
def endSeconds (e : DateTime) : Nat :=
  if e = .origin then DateTime.last.seconds + 1 else e.seconds

/-- An aligned instant for nominal length L (R46). -/
def aligned (nominal : Nat) (t : DateTime) : Bool := t.second == 0 && t.minute % nominal == 0

/-- The end boundary: the first aligned instant strictly after the opening time (R46), through the century wrap (R48). -/
def endBoundaryOf (nominal : Nat) (t : DateTime) : DateTime :=
  let m := (t.minute / nominal + 1) * nominal
  if m < 60 then { t with minute := m, second := 0 } else carryHour { t with minute := 0, second := 0 }

/-- The nominal length that a length code selects (Table 48); a code above 6 never reaches the active set (R132, log 17). -/
def lengthOf (code : Byte) : Nat :=
  match code.toNat with
  | 0 => 1
  | 1 => 2
  | 2 => 5
  | 3 => 10
  | 4 => 15
  | 5 => 30
  | _ => 60

/-- The calendar at a new time: the day of the week is formed afresh with the date (R42). -/
def Calendar.at (c : Calendar) (t : DateTime) : Calendar := { c with time := t, dayOfWeek := Machine.dayOfWeek t }

/-- A second event at the calendar (R39, R40, R43, R44): the phase returns to 0, the time advances, and at the wrap CAL_VALID
becomes false. -/
def Calendar.second (c : Calendar) : Calendar :=
  { c.at (nextSecond c.time) with phase := 0, valid := c.valid && c.time != .last }

/-- The second marker (R45): high while the phase is from 16384 to 32767. -/
def Calendar.markerHigh (c : Calendar) : Bool := Config.markerRise ≤ c.phase

/-- The time that the six time load fields name (R50). -/
def TimeLoadFields.time (f : TimeLoadFields) : DateTime :=
  ⟨f.year.toNat, f.month.toNat, f.day.toNat, f.hour.toNat, f.minute.toNat, f.second.toNat⟩

end Sys2Proof.Machine
end

