-- ==== Sys2Proof/Machine/Flags.lean ====
section
/-! DEFINITION. Saturating counts (section 1.7), the flags of an interval (R77, R80), the causes and what setting one does to
the event outputs (R156, R161, R163), and the level of an event output (R160 to R162). -/

namespace Sys2Proof.Machine

/-! ### Saturating counts -/

/-- A saturating count plus n: it stops at its maximum, which is all ones for every count of Table 2. -/
def satAdd {w : Nat} (x : BitVec w) (n : Nat) : BitVec w := BitVec.ofNat w (min (x.toNat + n) (2 ^ w - 1))

/-- One increment of a saturating count. -/
def satInc {w : Nat} (x : BitVec w) : BitVec w := satAdd x 1

/-- An integer limited to the signed range of w bits. -/
def clampSigned (w : Nat) (x : Int) : Int := max (-(2 ^ (w - 1) : Int)) (min x (2 ^ (w - 1) - 1))

/-- Whether an integer lies within the signed range of w bits. -/
def fitsSigned (w : Nat) (x : Int) : Bool := -(2 ^ (w - 1) : Int) ≤ x && x ≤ 2 ^ (w - 1) - 1

/-! ### Interval flags -/

/-- What triggers a close and the opening it causes (R76); a deferred boundary is a boundary. -/
inductive Trigger where
  | boundary
  | timeLoad
  | forceClose
  | commitNow
deriving DecidableEq, Repr

/-- The trigger is a command. -/
def Trigger.command (k : Trigger) : Bool := k != .boundary

/-- The flags that the closing bank takes at the trigger (R77). -/
def IntervalFlags.atClose (f : IntervalFlags) (k : Trigger) : IntervalFlags :=
  match k with
  | .boundary => f
  | .timeLoad => { f with timeset := true, short := true }
  | .forceClose => { f with forced := true, short := true }
  | .commitNow => { f with forced := true, short := true }

/-- The opening flags (R80). -/
def IntervalFlags.atOpening (k : Trigger) (isAligned applied calValid inBackup : Bool) : IntervalFlags where
  short := k.command || !isAligned
  power := inBackup
  timeset := k == .timeLoad
  forced := false
  config := applied
  timeInv := !calValid

/-! ### Causes -/

/-- The position of a cause (Table 54). -/
def Cause.position : Cause → Nat
  | .boundary => 0
  | .queueLevel => 1
  | .queueLoss => 2
  | .sampleDrop => 3
  | .linkError => 4
  | .accOvf => 5
  | .checkBad => 6
  | .cmdDone => 7
  | .configApplied => 8
  | .supply => 9
  | .timeInvalid => 10
  | .windowFault => 11

/-- The set that holds one cause. -/
def Cause.bit (c : Cause) : BitVec 12 := 1#12 <<< c.position

/-- A set of causes holds a cause. -/
def holdsCause (set : BitVec 12) (c : Cause) : Bool := set.getLsbD c.position

/-- What a cause that goes from not pending to pending does to an output: in mode PULSE with the cause masked, a request in
MAIN (R161) and a return mark in BACKUP (R163). -/
def EventOutput.onSetting (o : EventOutput) (supply : SupplyState) (c : Cause) : EventOutput :=
  if o.mode = .pulse ∧ holdsCause o.mask c = true then
    match supply with
    | .main => { o with pulse := if o.pulse = .idle then .requested else o.pulse }
    | .backup => { o with returnMark := true }
    | .absent => o
  else o

/-- The event unit takes the setting of a cause (R156). -/
def EventUnit.set (e : EventUnit) (supply : SupplyState) (c : Cause) : EventUnit :=
  if holdsCause e.pending c then e
  else { pending := e.pending ||| c.bit, a := e.a.onSetting supply c, b := e.b.onSetting supply c }

/-- A block sets a cause (R156). -/
def State.setCause (s : State) (c : Cause) : State := { s with events := s.events.set s.monitor.supply c }

/-- A block sets a cause where a condition holds. -/
def State.setCauseIf (s : State) (p : Bool) (c : Cause) : State := if p then s.setCause c else s

/-! ### The event outputs -/

/-- An output of the event unit. -/
def EventUnit.output (e : EventUnit) : EventPin → EventOutput
  | .a => e.a
  | .b => e.b

/-- The event unit with one output replaced. -/
def EventUnit.withOutput (e : EventUnit) (pin : EventPin) (o : EventOutput) : EventUnit :=
  match pin with
  | .a => { e with a := o }
  | .b => { e with b := o }

/-- The pulse state at a crystal period edge (R161). -/
def Pulse.edge : Pulse → Pulse
  | .idle => .idle
  | .requested => .low2
  | .low2 => .low1
  | .low1 => .idle

/-- Whether an event output is driven low (R160 to R163): in MAIN alone, by its mode. -/
def State.outputLow (s : State) (pin : EventPin) : Bool :=
  let o := s.events.output pin
  s.monitor.supply == .main &&
    match o.mode with
    | .off => false
    | .level => (o.mask &&& s.events.pending) != 0#12
    | .pulse => o.pulse == .low2 || o.pulse == .low1
    | .marker => !s.cal.markerHigh

end Sys2Proof.Machine
end

