-- ==== Sys2Proof/Machine/Memory.lean ====
section
/-! DEFINITION. The record memory (R97): 2048 words of 32 bits at word addresses 0 to 2047, as a canonical list. -/

namespace Sys2Proof.Machine

/-- What an unlisted address reads as: DESIGN CHOICE 0 (log 8); the spec states no contents before a word is written. -/
def RecordMemory.unlisted : Word := 0

/-- The addresses rise strictly from a lower bound, lie within the memory, and no entry equals what an unlisted address reads
as. -/
def RecordMemory.wfFrom : Nat → RecordMemory → Bool
  | _, [] => true
  | low, (a, w) :: rest => low ≤ a && a < Config.memoryWords && w != RecordMemory.unlisted && wfFrom (a + 1) rest

/-- The canonical form of the record memory. -/
def RecordMemory.wf (m : RecordMemory) : Bool := RecordMemory.wfFrom 0 m

/-- The word at an address. -/
def RecordMemory.read : RecordMemory → Nat → Word
  | [], _ => RecordMemory.unlisted
  | (b, w) :: rest, a => if b = a then w else RecordMemory.read rest a

/-- An entry in front of a list, unless it equals what an unlisted address reads as. -/
def RecordMemory.entry (a : Nat) (w : Word) (rest : RecordMemory) : RecordMemory :=
  if w = RecordMemory.unlisted then rest else (a, w) :: rest

/-- The list with the word at an address replaced, in canonical form. -/
def RecordMemory.insert (a : Nat) (w : Word) : RecordMemory → RecordMemory
  | [] => RecordMemory.entry a w []
  | (b, v) :: rest =>
    if a < b then RecordMemory.entry a w ((b, v) :: rest)
    else if a = b then RecordMemory.entry a w rest
    else (b, v) :: RecordMemory.insert a w rest

/-- A write of one word at an address of the ring (R97: counted modulo 2048). -/
def RecordMemory.write (m : RecordMemory) (a : Nat) (w : Word) : RecordMemory :=
  RecordMemory.insert (a % Config.memoryWords) w m

/-- Words written from an address onward, modulo 2048 (R97, R101). -/
def RecordMemory.writeWords (m : RecordMemory) (a : Nat) : List Word → RecordMemory
  | [] => m
  | w :: rest => RecordMemory.writeWords (m.write a w) (a + 1) rest

end Sys2Proof.Machine
end

