-- ==== Sys2Proof/Machine/Record.lean ====
section
/-! DEFINITION. The layout of a record (R99, Table 38), its check word (R100), and the bytes of words and fields (section 1.7:
most significant byte first). -/

namespace Sys2Proof.Machine

/-! ### Bytes -/

/-- The n bytes of a number, most significant first. -/
def beBytes (n v : Nat) : List Byte := (List.range n).map fun i => BitVec.ofNat 8 (v >>> (8 * (n - 1 - i)))

/-- The number that bytes give, most significant first. -/
def beNat (bytes : List Byte) : Nat := bytes.foldl (fun acc b => acc * 256 + b.toNat) 0

/-- Byte k of a word, 0 for the most significant (R109). -/
def wordByte (w : Word) (k : Nat) : Byte := (beBytes 4 w.toNat).getD k 0

/-- The upper half of a word. -/
def upperHalf (w : Word) : Half := w.extractLsb' 16 16

/-- The lower half of a word. -/
def lowerHalf (w : Word) : Half := w.extractLsb' 0 16

/-- The sum of all 16-bit halves of words, modulo 65536 (R100). -/
def halfSum (words : List Word) : Half := words.foldl (fun acc w => acc + upperHalf w + lowerHalf w) 0

/-! ### Words of a record -/

/-- A flag as its bit. -/
def bit (b : Bool) : BitVec 1 := BitVec.ofBool b

/-- The six flags, SHORT first. -/
def IntervalFlags.bits (f : IntervalFlags) : BitVec 6 :=
  bit f.short ++ bit f.power ++ bit f.timeset ++ bit f.forced ++ bit f.config ++ bit f.timeInv

/-- H0 (Table 38). -/
def Record.h0 (r : Record) : Word :=
  bit (r.kind == .gap) ++ BitVec.ofNat 3 r.entries.length ++ r.flags.bits ++ BitVec.ofNat 2 r.tariff.val ++ 0#4 ++ r.sequence

/-- H1 (Table 38). -/
def Record.h1 (r : Record) : Word :=
  BitVec.ofNat 7 r.stamp.year ++ BitVec.ofNat 4 r.stamp.month ++ BitVec.ofNat 5 r.stamp.day ++ BitVec.ofNat 5 r.stamp.hour
    ++ BitVec.ofNat 6 r.stamp.minute ++ 0#5

/-- H2 (Table 38). -/
def Record.h2 (r : Record) : Word := BitVec.ofNat 6 r.nominal ++ r.covered ++ r.dropped ++ 0#2

/-- H3 (Table 38). -/
def Record.h3 (r : Record) : Word := r.rejected ++ r.gaps ++ r.lostBefore ++ 0#4

/-- H4 (Table 38). -/
def Record.h4 (r : Record) : Word := r.missed ++ r.check

/-- E0 to E2 of a channel entry (Table 38). -/
def RecordEntry.words (e : RecordEntry) : List Word :=
  [BitVec.ofNat 3 e.channel.val ++ bit e.accOvf ++ bit e.inSat ++ bit e.unpaired ++ 0#10 ++ e.count,
   e.value.extractLsb' 16 32,
   e.value.extractLsb' 0 16 ++ 0#16]

/-- The words of a record: five header words, then three for each channel entry (R99). -/
def Record.words (r : Record) : List Word :=
  [r.h0, r.h1, r.h2, r.h3, r.h4] ++ r.entries.flatMap RecordEntry.words

/-- The length of a record in words (R98). -/
def Record.size (r : Record) : Nat := 5 + 3 * r.entries.length

/-- The check word over all other fields (R100): 65536 less the sum with the check word taken as 0, modulo 65536. -/
def Record.checkWord (r : Record) : Half := 0 - halfSum { r with check := 0 }.words

/-- The record with its check word formed last (R83, R100). -/
def Record.sealed (r : Record) : Record := { r with check := r.checkWord }

end Sys2Proof.Machine
end

