-- ==== Sys2Proof/Machine/Queue.lean ====
section
/-! DEFINITION. The record queue on its own state: store, loss and discard (R101 to R105), hold and read-out (R107 to R111),
removal (R112, R113). -/

namespace Sys2Proof.Machine

/-- The free words (R97). -/
def RecordQueue.free (q : RecordQueue) : Nat := Config.memoryWords - q.used

/-- A record stored at the tail; the lost count returns to 0 (R101, R104). -/
def RecordQueue.put (q : RecordQueue) (words : List Word) : RecordQueue :=
  { q with
    mem := q.mem.writeWords q.tail words
    tail := (q.tail + words.length) % Config.memoryWords
    count := q.count + 1
    used := q.used + words.length
    lens := q.lens ++ [words.length]
    lost := 0 }

/-- A record lost (R102). -/
def RecordQueue.lose (q : RecordQueue) : RecordQueue := { q with lost := satInc q.lost }

/-- The oldest record removed: the head advances by its length, the count and the used words decrease (R103, R112). -/
def RecordQueue.dropHead (q : RecordQueue) : RecordQueue :=
  match q.lens with
  | [] => q
  | n :: rest =>
    { q with head := (q.head + n) % Config.memoryWords, count := q.count - 1, used := q.used - n, lens := rest }

/-- Records discarded from the head, one whole record at a time, until n words are free (R103); `fuel` bounds the records. -/
def RecordQueue.makeRoom (q : RecordQueue) (n : Nat) : Nat → RecordQueue
  | 0 => q
  | fuel + 1 => if n ≤ q.free then q else RecordQueue.makeRoom q.dropHead n fuel

/-- What the queue answers to an offer. -/
inductive OfferOutcome where
  /-- stored without a discard (R101) -/
  | stored
  /-- stored after a discard (R103) -/
  | overwrote
  /-- lost (R102, R103) -/
  | lost
deriving DecidableEq, Repr

/-- Which case an offer of n words is (R101 to R103). -/
def RecordQueue.outcome (q : RecordQueue) (n : Nat) : OfferOutcome :=
  if n ≤ q.free then .stored else if q.overwrite ∧ q.hold = false then .overwrote else .lost

/-- The queue after an offer (R101 to R103). -/
def RecordQueue.offer (q : RecordQueue) (words : List Word) : RecordQueue :=
  match q.outcome words.length with
  | .stored => q.put words
  | .overwrote => (q.makeRoom words.length q.lens.length).put words
  | .lost => q.lose

/-- A store that sets QUEUE_LEVEL (R105): no discard, and the count rises to the threshold. -/
def RecordQueue.reachesLevel (q : RecordQueue) (n : Nat) : Bool :=
  q.outcome n == .stored && q.threshold != 0 && q.count + 1 == q.threshold.toNat

/-- An offer that sets QUEUE_LOSS (R102, R103). -/
def RecordQueue.losesAt (q : RecordQueue) (n : Nat) : Bool := q.outcome n != .stored

/-- Reading begins at word 0 of the head record, which is held (R107, R108). -/
def RecordQueue.startReading (q : RecordQueue) : RecordQueue :=
  { q with hold := true, readPtr := 0, runningSum := 0, readStatus := .reading }

/-- The hold ends (R112, R113, R115); the read pointer and the running sum are abandoned and hold 0 (log 9). -/
def RecordQueue.endHold (q : RecordQueue) : RecordQueue :=
  { q with hold := false, readPtr := 0, runningSum := 0, readStatus := .noRecord }

/-- Every record removed (R113). -/
def RecordQueue.flushed (q : RecordQueue) : RecordQueue :=
  { q.endHold with head := 0, tail := 0, count := 0, used := 0, lens := [] }

/-- The word at the read pointer of the held record (R109). -/
def RecordQueue.currentWord (q : RecordQueue) : Word := q.mem.read ((q.head + q.readPtr) % Config.memoryWords)

/-- The length of the held record: the length of the record at the head (R98, R110; log 7). -/
def RecordQueue.heldLength (q : RecordQueue) : Nat := q.lens.headD 0

/-- A word delivered (R109), with the verdict at the last word (R110). -/
def RecordQueue.deliver (q : RecordQueue) : RecordQueue :=
  let w := q.currentWord
  let sum := q.runningSum + upperHalf w + lowerHalf w
  { q with
    readPtr := q.readPtr + 1
    runningSum := sum
    readStatus := if q.readPtr + 1 = q.heldLength then (if sum = 0 then .checkOk else .checkBad) else q.readStatus }

/-- A byte read after the verdict (R111). -/
def RecordQueue.readPastEnd (q : RecordQueue) : RecordQueue :=
  match q.readStatus with
  | .checkOk | .checkBad => { q with readStatus := .pastEnd }
  | _ => q

end Sys2Proof.Machine
end

