-- ==== Sys2Proof/Machine/Scaling.lean ====
section
/-! DEFINITION. The arithmetic of the scaling engine (R21 to R34) on a channel entry, a partner value and a per-channel state,
computed on integers and narrowed at the end. -/

namespace Sys2Proof.Machine

/-- Channel modes (Table 48). -/
inductive ChannelMode where
  | sum
  | square
  | product
deriving DecidableEq, Repr

/-- The channel is enabled (Table 48). -/
def ChannelEntry.isEnabled (e : ChannelEntry) : Bool := e.enabled == 1

/-- The source is HOST and not LINK (Table 48). -/
def ChannelEntry.fromHost (e : ChannelEntry) : Bool := e.source == 1

/-- The mode (Table 48); a byte above 2 never reaches an enabled entry of the active set (R135, log 17). -/
def ChannelEntry.modeOf (e : ChannelEntry) : ChannelMode :=
  if e.mode = 1 then .square else if e.mode = 2 then .product else .sum

/-- The overflow policy is WRAP and not SATURATE (Table 48). -/
def ChannelEntry.wraps (e : ChannelEntry) : Bool := e.overflow == 1

/-- The rounding is NEAREST and not FLOOR (Table 48). -/
def ChannelEntry.nearest (e : ChannelEntry) : Bool := e.rounding == 1

/-- A division by 2^k rounded as R22, R27 and R29 give: FLOOR toward minus infinity, NEAREST with a half going up. -/
def roundedShift (nearest : Bool) (k : Nat) (x : Int) : Int :=
  if nearest then (x + 2 ^ (k - 1)) / 2 ^ k else x / 2 ^ k

/-- The true difference of sample and offset (R21). -/
def ChannelEntry.difference (e : ChannelEntry) (sample : BitVec 24) : Int := sample.toInt - e.offset.toInt

/-- The offset-corrected value d (R21). -/
def ChannelEntry.corrected (e : ChannelEntry) (sample : BitVec 24) : Int := clampSigned 24 (e.difference sample)

/-- The special pair of R23. -/
def ChannelEntry.special (e : ChannelEntry) (sample : BitVec 24) : Bool :=
  e.corrected sample == -(2 ^ 23) && e.gain.toInt == -(2 ^ 15)

/-- The scaled value v (R22, R23). -/
def ChannelEntry.scaled (e : ChannelEntry) (sample : BitVec 24) : Int :=
  if e.special sample then 2 ^ 23 - 1 else roundedShift e.nearest 15 (e.corrected sample * e.gain.toInt)

/-- The sample sets IN_SAT: its offset correction was clamped (R21) or it is the special product (R23). -/
def ChannelEntry.saturates (e : ChannelEntry) (sample : BitVec 24) : Bool :=
  e.corrected sample != e.difference sample || e.special sample

/-- The increment of a mode (R26 to R29); none for an unpaired PRODUCT sample (R30). `w` is the fresh partner value. -/
def ChannelEntry.increment (e : ChannelEntry) (v : Int) (w : Option Int) : Option Int :=
  match e.modeOf with
  | .sum => some v
  | .square => some (roundedShift e.nearest 23 (v * v))
  | .product => w.map fun w => roundedShift e.nearest 23 (v * w)

/-- The accumulator after a true sum (R31, R32). -/
def accumulator (wraps : Bool) (sum : Int) : BitVec 48 :=
  if wraps then BitVec.ofInt 48 sum else BitVec.ofInt 48 (clampSigned 48 sum)

/-- The per-channel state after an increment, or after an unpaired sample (R30 to R34). -/
def ChanState.add (c : ChanState) (wraps saturated : Bool) (increment : Option Int) : ChanState :=
  match increment with
  | none => { c with unpaired := true, inSat := c.inSat || saturated }
  | some i =>
    { c with
      acc := accumulator wraps (c.acc.toInt + i)
      count := satInc c.count
      accOvf := c.accOvf || !fitsSigned 48 (c.acc.toInt + i)
      inSat := c.inSat || saturated }

/-- IN_SAT or ACC_OVF is set where it was clear, so cause ACC_OVF is set (R34). -/
def ChanState.raises (before after : ChanState) : Bool :=
  (after.inSat && !before.inSat) || (after.accOvf && !before.accOvf)

/-- A per-channel state at an opening (R20). -/
def ChanState.zero : ChanState := ⟨0, 0, false, false, false⟩

/-- The per-channel states formed from a channel copy (R20). -/
def chansOf (copy : Vector ChannelEntry 6) : Vector (Option ChanState) 6 :=
  let f := fun (e : ChannelEntry) => if e.isEnabled then some ChanState.zero else none
  #v[f copy[0], f copy[1], f copy[2], f copy[3], f copy[4], f copy[5]]

/-- The fresh partner value of a sample (R28): present, with the entry's tag. -/
def freshPartner (latest : Vector (Option Latest) 6) (x : Sample) (p : Fin 6) : Option Int :=
  match latest[p] with
  | some l => if l.tag = x.tag then some l.value.toInt else none
  | none => none

end Sys2Proof.Machine
end

