-- ==== Sys2Proof/Machine/Schedule.lean ====
section
/-! DEFINITION. The schedule lookup (R61 to R63) and the validation of a staged set (R135, R67 to R70). -/

namespace Sys2Proof.Machine

/-! ### Lookup -/

/-- A used special-day slot whose month and day are those of the date (R62). -/
def SpecSlot.onDay (x : SpecSlot) (t : DateTime) : Bool :=
  x.used == 1 && x.month.toNat == t.month && x.day.toNat == t.day

/-- Case 1 of R62: the slot names the year too. -/
def SpecSlot.dated (x : SpecSlot) (t : DateTime) : Bool := x.onDay t && x.yearPresent == 1 && x.year.toNat == t.year

/-- Case 2 of R62: the slot holds in every year. -/
def SpecSlot.undated (x : SpecSlot) (t : DateTime) : Bool := x.onDay t && x.yearPresent == 0

/-- The day-type map entry for a day of the week. -/
def ConfigSet.mapEntry (c : ConfigSet) (day : Nat) : Byte := c.dayTypes.toList.getD day 0

/-- The first step of the lookup: the day type of a date (R62). -/
def ConfigSet.dayTypeAt (c : ConfigSet) (t : DateTime) : Byte :=
  match c.specials.toList.find? (·.dated t) with
  | some x => x.dayType
  | none =>
    match c.specials.toList.find? (·.undated t) with
    | some x => x.dayType
    | none => c.mapEntry (dayOfWeek t)

/-- The time of day of a schedule entry in minutes. -/
def SchedSlot.minutes (x : SchedSlot) : Nat := x.hour.toNat * 60 + x.minute.toNat

/-- An entry that R63 considers: used, of this day type, at or before the opening's hour and minute. -/
def SchedSlot.reached (x : SchedSlot) (dayType : Byte) (t : DateTime) : Bool :=
  x.used == 1 && x.dayType == dayType && x.minutes ≤ t.hour * 60 + t.minute

/-- The later of the best entry so far and another one. -/
def laterEntry (best : Option SchedSlot) (x : SchedSlot) : Option SchedSlot :=
  match best with
  | none => some x
  | some y => if y.minutes < x.minutes then some x else some y

/-- The second step of the lookup: the tariff in force at an opening time (R61, R63). -/
def ConfigSet.tariffAt (c : ConfigSet) (t : DateTime) : Fin 4 :=
  let considered := c.schedule.toList.filter (·.reached (c.dayTypeAt t) t)
  match considered.foldl laterEntry none with
  | some x => Fin.ofNat 4 x.tariff.toNat
  | none => Fin.ofNat 4 c.defaultTariff.toNat

/-! ### Validation -/

/-- The partner of a channel (Table 13): the other member of its pair. -/
def partner (c : Fin 6) : Fin 6 :=
  match c with
  | 0 => 1
  | 1 => 0
  | 2 => 3
  | 3 => 2
  | 4 => 5
  | 5 => 4

/-- Condition 2 of R135 for one channel. -/
def ConfigSet.channelOk (s : ConfigSet) (c : Fin 6) : Bool :=
  let e := s.channels[c]
  let p := s.channels[partner c]
  e.enabled == 0
    || (e.enabled == 1 && e.source ≤ 1 && e.mode ≤ 2 && e.overflow ≤ 1 && e.rounding ≤ 1
      && (e.mode != 2 || (p.enabled == 1 && p.mode != 2)))

/-- The range conditions of R67 for a schedule entry slot. -/
def SchedSlot.inRange (x : SchedSlot) : Bool :=
  x.used == 0 || (x.used == 1 && x.dayType ≤ 3 && x.hour ≤ 23 && x.minute ≤ 59 && x.tariff ≤ 3)

/-- Two slots of which both are used and hold the same day type, hour and minute (R68). -/
def SchedSlot.sameKey (x y : SchedSlot) : Bool :=
  x.used == 1 && y.used == 1 && x.dayType == y.dayType && x.hour == y.hour && x.minute == y.minute

/-- The range conditions of R67 and the date condition of R69 for a special-day slot. -/
def SpecSlot.inRange (x : SpecSlot) : Bool :=
  x.used == 0
    || (x.used == 1 && x.yearPresent ≤ 1 && 1 ≤ x.month && x.month ≤ 12 && 1 ≤ x.day && x.day ≤ 31
      && (x.yearPresent == 0 || x.year ≤ 99) && x.dayType ≤ 3
      && x.day.toNat ≤ monthLength (if x.yearPresent == 1 then x.year.toNat else 0) x.month.toNat)

/-- Two used slots with the same date key (R69). -/
def SpecSlot.sameKey (x y : SpecSlot) : Bool :=
  x.used == 1 && y.used == 1 && x.month == y.month && x.day == y.day && x.yearPresent == y.yearPresent
    && (x.yearPresent == 0 || x.year == y.year)

/-- A schedule slot is in range and its key is that of no used slot of lower index (R68, R70). -/
def ConfigSet.schedOk (s : ConfigSet) (i : Fin 20) : Bool :=
  s.schedule[i].inRange && !(List.finRange 20).any fun j => j < i && s.schedule[j].sameKey s.schedule[i]

/-- A special-day slot is in range and its key is that of no used slot of lower index (R69, R70). -/
def ConfigSet.specOk (s : ConfigSet) (i : Fin 16) : Bool :=
  s.specials[i].inRange && !(List.finRange 16).any fun j => j < i && s.specials[j].sameKey s.specials[i]

/-- The first index of a table that fails its condition, as a config fault. -/
def firstBad (n : Nat) (table : FaultTable) (ok : Fin n → Bool) : Option (FaultTable × Nat) :=
  ((List.finRange n).find? fun i => !ok i).map fun i => (table, i.val)

/-- The first condition that a staged set fails, in the order of R135 and R70; none when it passes. -/
def ConfigSet.firstFault (s : ConfigSet) : Option (FaultTable × Nat) :=
  (if s.lengthCode ≤ 6 then none else some (.length, 0))
    <|> firstBad 6 .channels s.channelOk
    <|> firstBad 7 .dayTypeMap (fun i => s.dayTypes[i] ≤ 3)
    <|> (if s.defaultTariff ≤ 3 then none else some (.defaultTariff, 0))
    <|> firstBad 20 .schedule s.schedOk
    <|> firstBad 16 .specialDays s.specOk

/-- A set that passes validation (R135). -/
def ConfigSet.passes (s : ConfigSet) : Bool := s.firstFault.isNone

end Sys2Proof.Machine
end

