-- ==== Sys2Proof/Machine/Ops.lean ====
section
/-! DEFINITION. The shared operations on the whole state: banks and intake (R7, R13, R14, R16), the engine (R18, R19), openings
and closes (R76 to R88), missed intervals and the GAP record (R148, R152), second events (R47, R75). -/

namespace Sys2Proof.Machine

/-! ### Banks and tags -/

/-- The other bank. -/
def Tag.other : Tag → Tag
  | .a => .b
  | .b => .a

/-- A bank by its tag. -/
def State.bank (s : State) : Tag → Bank
  | .a => s.bankA
  | .b => s.bankB

/-- The state with one bank replaced. -/
def State.setBank (s : State) (t : Tag) (b : Bank) : State :=
  match t with
  | .a => { s with bankA := b }
  | .b => { s with bankB := b }

/-- The tag of the OPEN bank; exactly one bank is OPEN (R73). -/
def State.openTag (s : State) : Tag := if s.bankA.state = .opened then .a else .b

/-- The OPEN bank. -/
def State.openBank (s : State) : Bank := s.bank s.openTag

/-- A change of one bank. -/
def State.modifyBank (s : State) (t : Tag) (f : Bank → Bank) : State := s.setBank t (f (s.bank t))

/-- A change of the OPEN bank (R7). -/
def State.modifyOpen (s : State) (f : Bank → Bank) : State := s.modifyBank s.openTag f

/-- CLOSE_BUSY: a close is in progress (R81, R87). -/
def State.closeBusy (s : State) : Bool := s.ic.stage != .idle

/-- The main domain runs (section 1.4). -/
def State.inMain (s : State) : Bool := s.monitor.supply == .main

/-- The crystal counts: the oscillator runs and a supply is present (R39, section 1.4). -/
def State.ticking (s : State) : Bool := s.oscRunning && s.monitor.supply != .absent

/-! ### Intake -/

/-- One rejection counted in the OPEN bank, with the cause of the producer (R2, R3, R6, R10). -/
def State.reject (s : State) (c : Cause) : State :=
  (s.modifyOpen fun b => { b with rejected := satInc b.rejected }).setCause c

/-- An arrival at the sample queue (R13), or a drop at a full queue (R14). -/
def State.arrive (s : State) (channel : Fin 6) (value : BitVec 24) : State :=
  if s.main.samples.length < Config.queueDepth then
    { s with main := { s.main with samples := s.main.samples ++ [⟨channel, value, s.openTag⟩] } }
  else (s.modifyOpen fun b => { b with dropped := satInc b.dropped }).setCause .sampleDrop

/-- A sample offered by a producer for a channel number: rejected with the producer's cause where the channel is above 5, is
not enabled in the active set, or has the other source (R6, R10); otherwise an arrival. -/
def State.intake (s : State) (host : Bool) (channel : Nat) (value : BitVec 24) (c : Cause) : State :=
  if h : channel < 6 then
    let e := s.cfg.active.channels[channel]
    if e.isEnabled && e.fromHost == host then s.arrive ⟨channel, h⟩ value else s.reject c
  else s.reject c

/-! ### The drain check and the discard -/

/-- The samples in flight: the entry the engine holds and the entries of the queue. -/
def MainDomain.inFlight (m : MainDomain) : List Sample := m.engine.toList ++ m.samples

/-- The drain check (R82): with no entry of the closing bank's tag in flight, DRAIN ends and BUILD follows. -/
def State.drainCheck (s : State) : State :=
  if s.ic.stage = .drain ∧ s.main.inFlight.all (fun x => x.tag != s.openTag.other) = true then
    { s with ic := { s.ic with stage := .build } }
  else s

/-- Samples counted as dropped in the banks their tags name (R16). -/
def State.countDropped (s : State) (xs : List Sample) : State :=
  let n := fun t => xs.countP (fun x => x.tag == t)
  { s with
    bankA := { s.bankA with dropped := satAdd s.bankA.dropped (n .a) }
    bankB := { s.bankB with dropped := satAdd s.bankB.dropped (n .b) } }

/-- The discard of the sample queue and the engine's entry (R16): each counted in its tagged bank, SAMPLE_DROP set if there
was any, and the check point of R82 (R91, R92). -/
def State.discardSamples (s : State) : State :=
  let xs := s.main.inFlight
  let s1 := (s.countDropped xs).setCauseIf (!xs.isEmpty) .sampleDrop
  { s1 with main := { s1.main with samples := [], engine := none } }.drainCheck

/-! ### The engine -/

/-- The IDLE engine takes the oldest entry from the queue (R15, R18). -/
def MainDomain.take (m : MainDomain) : MainDomain :=
  match m.engine, m.samples with
  | none, x :: rest => { m with engine := some x, samples := rest }
  | _, _ => m

/-- The settings an accumulation uses: the tagged bank's copy of the channel's entry (R19, R38). -/
def State.settings (s : State) (x : Sample) : ChannelEntry := (s.bank x.tag).copy[x.channel]

/-- The accumulation of one entry (R19): the latest value, the tagged bank's per-channel state and cause ACC_OVF. -/
def State.accumulate (s : State) (x : Sample) : State :=
  let e := s.settings x
  let v := e.scaled x.value
  let s1 := { s with
    main := { s.main with latest := s.main.latest.set x.channel (some ⟨BitVec.ofInt 24 v, x.tag⟩) } }
  match (s.bank x.tag).chans[x.channel] with
  | none => s1
  | some c =>
    let w := freshPartner s1.main.latest x (partner x.channel)
    let c' := c.add e.wraps (e.saturates x.value) (e.increment v w)
    (s1.modifyBank x.tag fun b => { b with chans := b.chans.set x.channel (some c') }).setCauseIf (c.raises c') .accOvf

/-! ### Openings and closes -/

/-- The apply (R139): the staged set becomes active, the pending indication CLEAR, and CONFIG_APPLIED is set. -/
def State.applyConfig (s : State) : State :=
  { s with cfg := { s.cfg with active := s.cfg.staged, commitPending := false } }.setCause .configApplied

/-- An opening applies the staged set: a commit is pending, or CONFIG_COMMIT NOW triggers it (R78, step 1). -/
def State.applies (s : State) (k : Trigger) : Bool := s.cfg.commitPending || k == .commitNow

/-- The bank as an opening leaves it (R78, steps 2 to 5 and 7), under an active set. -/
def openedBank (active : ConfigSet) (k : Trigger) (t : DateTime) (calValid applied inBackup : Bool) : Bank :=
  let nominal := lengthOf active.lengthCode
  { state := .opened
    start := t
    nominal := nominal
    endBoundary := endBoundaryOf nominal t
    tariff := active.tariffAt t
    flags := .atOpening k (aligned nominal t) applied calValid inBackup
    covered := 0
    dropped := 0
    rejected := 0
    gaps := 0
    copy := active.channels
    chans := chansOf active.channels }

/-- Latest-value entries that carry a tag become absent (R25). -/
def purgeLatest (latest : Vector (Option Latest) 6) (t : Tag) : Vector (Option Latest) 6 :=
  let f := fun (l : Option Latest) => l.filter fun x => x.tag != t
  #v[f latest[0], f latest[1], f latest[2], f latest[3], f latest[4], f latest[5]]

/-- An opening of a bank (R78), at an opening time with the CAL_VALID of R79. -/
def State.opening (s : State) (k : Trigger) (t : DateTime) (calValid : Bool) (tag : Tag) : State :=
  let applied := s.applies k
  let s1 := if applied then s.applyConfig else s
  let s2 := s1.setBank tag (openedBank s1.cfg.active k t calValid applied (s1.monitor.supply == SupplyState.backup))
  if s2.inMain then { s2 with main := { s2.main with latest := purgeLatest s2.main.latest tag } } else s2

/-- The trigger of a close (R76, R81): the OPEN bank becomes CLOSING with the flags of R77, the FREE bank opens, the close
stage becomes DRAIN, and the drain check is made (R82). -/
def State.triggerClose (s : State) (k : Trigger) (t : DateTime) (calValid : Bool) : State :=
  let old := s.openTag
  let s1 := s.modifyBank old fun b => { b with state := .closing, flags := b.flags.atClose k }
  let s2 := s1.opening k t calValid old.other
  { s2 with ic := { s2.ic with stage := .drain } }.drainCheck

/-- The end of a missed interval (R148): the first-missed record, the count, and the OPEN bank opened again in place. -/
def State.missInterval (s : State) (t : DateTime) (calValid : Bool) : State :=
  let b := s.openBank
  let first := s.ic.firstMissed.getD ⟨b.start.stamp, b.nominal, b.flags.timeInv⟩
  { s with ic := { s.ic with firstMissed := some first, missed := satInc s.ic.missed } }.opening .boundary t calValid s.openTag

/-- The interval controller holds a boundary that falls during a close (R88); in BACKUP it changes the backup boundary state
when it is handed over (R147). -/
def State.deferBoundary (s : State) (t : DateTime) (calValid : Bool) : State :=
  { s with ic := { s.ic with
      deferred := some ⟨t, calValid, s.monitor.supply, s.ic.backupBoundary⟩
      backupBoundary := if s.monitor.supply = .backup then .taken else s.ic.backupBoundary } }

/-- A boundary taken with no close in progress: in MAIN it triggers a close (R76); in BACKUP the first one triggers a close
(R93) and a later one ends a missed interval (R148). `supply` and `found` are those of the hand-over (R88, R147). -/
def State.actOnBoundary (s : State) (t : DateTime) (calValid : Bool) (supply : SupplyState) (found : BackupBoundary) : State :=
  if supply = .backup ∧ found = .taken then s.missInterval t calValid
  else
    let now : BackupBoundary := if s.monitor.supply = .backup then .taken else s.ic.backupBoundary
    { s with ic := { s.ic with backupBoundary := now } }.triggerClose .boundary t calValid

/-- A boundary handed over by the calendar (R47). -/
def State.boundary (s : State) (t : DateTime) (calValid : Bool) : State :=
  if s.closeBusy then s.deferBoundary t calValid
  else s.actOnBoundary t calValid s.monitor.supply s.ic.backupBoundary

/-! ### Records -/

/-- The channel entries of a bank's record: one for each channel with per-channel state, ascending (R83). -/
def Bank.recordEntries (b : Bank) : List RecordEntry :=
  (List.finRange 6).filterMap fun i =>
    b.chans[i].map fun c => ⟨i, c.accOvf, c.inSat, c.unpaired, c.count, c.acc⟩

/-- The INTERVAL record of a closing bank (R83). -/
def Bank.record (b : Bank) (sequence : BitVec 16) (lostBefore : BitVec 12) : Record :=
  Record.sealed
    { kind := .interval
      flags := b.flags
      tariff := b.tariff
      sequence := sequence
      stamp := b.start.stamp
      nominal := b.nominal
      covered := b.covered
      dropped := b.dropped
      rejected := b.rejected
      gaps := b.gaps
      lostBefore := lostBefore
      missed := 0
      check := 0
      entries := b.recordEntries }

/-- The GAP record (R98, R152). -/
def gapRecord (f : FirstMissed) (missed : BitVec 16) (sequence : BitVec 16) (lostBefore : BitVec 12) : Record :=
  Record.sealed
    { kind := .gap
      flags := { IntervalFlags.none with power := true, timeInv := f.timeInv }
      tariff := 0
      sequence := sequence
      stamp := f.stamp
      nominal := f.nominal
      covered := 0
      dropped := 0
      rejected := 0
      gaps := 0
      lostBefore := lostBefore
      missed := missed
      check := 0
      entries := [] }

/-- A record offered to the record queue (R101 to R105), with the causes of the store or loss. -/
def State.offerRecord (s : State) (r : Record) : State :=
  let n := r.words.length
  ({ s with queue := s.queue.offer r.words }.setCauseIf (s.queue.losesAt n) .queueLoss).setCauseIf
    (s.queue.reachesLevel n) .queueLevel

/-- A due GAP record is built and offered (R152). With no first-missed record there is nothing to report (log 19). -/
def State.buildGap (s : State) : State :=
  match s.ic.firstMissed with
  | none => s
  | some f =>
    let r := gapRecord f s.ic.missed s.ic.nextSeq s.queue.lost
    { s with ic := { s.ic with
        nextSeq := s.ic.nextSeq + 1, anyBuilt := true, missed := 0, firstMissed := none, gapDue := false } }.offerRecord r

/-- A due GAP record is built when the close stage is IDLE (R152). -/
def State.buildDueGap (s : State) : State := if s.ic.gapDue ∧ s.ic.stage = .idle then s.buildGap else s

/-- A held deferred boundary is acted on at a completion (R87, R88). -/
def State.releaseDeferred (s : State) : State :=
  match s.ic.deferred with
  | none => s
  | some d => { s with ic := { s.ic with deferred := none } }.actOnBoundary d.instant d.calValid d.handedIn d.found

/-- The completion of a close (R87): the CLOSING bank becomes FREE, the close stage IDLE, BOUNDARY is set, a due GAP record is
built, and a held deferred boundary triggers its close. -/
def State.completeClose (s : State) : State :=
  let s1 := s.modifyBank s.openTag.other fun b => { b with state := .free }
  ({ s1 with ic := { s1.ic with stage := .idle, built := none } }.setCause .boundary).buildDueGap.releaseDeferred

/-! ### Credits -/

/-- A total after a credit (R119). -/
def Total.credit (t : Total) (value : BitVec 48) : Total :=
  let sum := t.value.toInt + value.toInt
  { value := BitVec.ofInt 64 (clampSigned 64 sum), ovf := t.ovf || !fitsSigned 64 sum }

/-- The credit limits the total (R119). -/
def Total.limits (t : Total) (value : BitVec 48) : Bool := !fitsSigned 64 (t.value.toInt + value.toInt)

/-- A demand entry after the update with a channel entry of a record (R122). -/
def updateDemand (d : Option DemandEntry) (stamp : Stamp) (e : RecordEntry) : Option DemandEntry :=
  match d with
  | none => some ⟨e.value, stamp, e.accOvf⟩
  | some old => if old.value.toInt < e.value.toInt then some ⟨e.value, stamp, e.accOvf⟩ else some old

/-- One channel entry credited to the totals and, where the record qualifies, to the demand table (R119, R122). -/
def State.creditEntry (s : State) (r : Record) (e : RecordEntry) : State :=
  let t := s.totals[e.channel][r.tariff]
  let s1 := { s with
    totals := s.totals.set e.channel (s.totals[e.channel].set r.tariff (t.credit e.value)) }.setCauseIf (t.limits e.value) .accOvf
  if r.flags.short || r.flags.power then s1
  else { s1 with
    demand := s1.demand.set e.channel
      (s1.demand[e.channel].set r.tariff (updateDemand s1.demand[e.channel][r.tariff] r.stamp e)) }

/-- The channel entries of a record credited in ascending channel number (R85, R119, R122). -/
def State.creditRecord (s : State) (r : Record) : State := r.entries.foldl (fun s e => s.creditEntry r e) s

/-! ### Second events -/

/-- A second event (R39, R43, R47, R75): the calendar advances, the OPEN bank counts the second in MAIN, and the boundary is
handed over where the new time is the OPEN bank's end boundary. -/
def State.secondEvent (s : State) : State :=
  let s1 := { s with cal := s.cal.second }.setCauseIf (s.cal.time == DateTime.last) .timeInvalid
  let s2 := if s1.inMain then s1.modifyOpen fun b => { b with covered := satInc b.covered } else s1
  if s2.cal.time = s2.openBank.endBoundary then s2.boundary s2.cal.time s2.cal.valid else s2

end Sys2Proof.Machine
end

