-- ==== Sys2Proof/Machine/Operands.lean ====
section
/-! DEFINITION. The register window as an address space: the register map (R172, Tables 56 and 57), what each register reads
(R168), the address pointer (R166, R167), and the byte slots of a transaction (R168 to R170). -/

namespace Sys2Proof.Machine

/-- The fields of a channel table entry on the CHANNELS page (Table 57). -/
inductive ChannelField where
  | enabled
  | source
  | mode
  | overflow
  | rounding
  | offset
  | gain
deriving DecidableEq, Repr

/-- The registers of Tables 56 and 57. -/
inductive Reg where
  | page
  | status
  | cmdResult
  | command
  | pendingSet
  | causeClear
  | mask (pin : EventPin)
  | mode (pin : EventPin)
  | calendar
  | timeLoad (i : Nat)
  | length
  | configFault
  | recordCount
  | usedWords
  | lostCount
  | readStatus
  | queuePolicy
  | levelThreshold
  | queueFill
  | sampleEntry
  | recordData
  | liveTag
  | liveTariff
  | liveStamp
  | liveSecond
  | liveCovered
  | liveLatest (c : Fin 6)
  | channel (c : Fin 6) (f : ChannelField)
  | dayType (i : Fin 7)
  | defaultTariff
  | schedSlot
  | schedField (i : Nat)
  | specSlot
  | specField (i : Nat)
  | snapValid
  | snapTime
  | snapSequence
  | snapNone
  | snapItem
  | snapView
deriving DecidableEq, Repr

/-- Access (R172). -/
inductive Access where
  | readOnly
  | writeOnly
  | readWrite
deriving DecidableEq, Repr

/-- The access of a register (Tables 56 and 57). -/
def Reg.access : Reg → Access
  | .command | .causeClear | .sampleEntry => .writeOnly
  | .page | .mask _ | .mode _ | .timeLoad _ | .length | .queuePolicy | .levelThreshold | .channel _ _ | .dayType _
  | .defaultTariff | .schedSlot | .schedField _ | .specSlot | .specField _ | .snapItem => .readWrite
  | _ => .readOnly

/-- The width of a channel field in bytes (Table 48). -/
def ChannelField.width : ChannelField → Nat
  | .offset => 3
  | .gain => 2
  | _ => 1

/-- The width of a register in bytes (Tables 56 and 57); a streaming port has accesses of one byte. -/
def Reg.width : Reg → Nat
  | .cmdResult | .command | .pendingSet | .causeClear | .mask _ | .configFault | .recordCount | .usedWords | .lostCount
  | .liveCovered | .snapSequence | .snapItem => 2
  | .calendar => 8
  | .liveStamp => 5
  | .liveLatest _ => 4
  | .channel _ f => f.width
  | .snapTime => 7
  | .snapView => 20
  | _ => 1

/-- The fixed registers (Table 56): the register at an address below 0x40 and the byte of it, 0 for the first. -/
def fixedRegister (a : Nat) : Option (Reg × Nat) :=
  match a with
  | 0x00 => some (.page, 0)
  | 0x01 => some (.status, 0)
  | 0x02 => some (.cmdResult, 0)
  | 0x03 => some (.cmdResult, 1)
  | 0x04 => some (.command, 0)
  | 0x05 => some (.command, 1)
  | 0x06 => some (.pendingSet, 0)
  | 0x07 => some (.pendingSet, 1)
  | 0x08 => some (.causeClear, 0)
  | 0x09 => some (.causeClear, 1)
  | 0x0A => some (.mask .a, 0)
  | 0x0B => some (.mask .a, 1)
  | 0x0C => some (.mode .a, 0)
  | 0x0D => some (.mask .b, 0)
  | 0x0E => some (.mask .b, 1)
  | 0x0F => some (.mode .b, 0)
  | 0x1E => some (.length, 0)
  | 0x1F => some (.configFault, 0)
  | 0x20 => some (.configFault, 1)
  | 0x21 => some (.recordCount, 0)
  | 0x22 => some (.recordCount, 1)
  | 0x23 => some (.usedWords, 0)
  | 0x24 => some (.usedWords, 1)
  | 0x25 => some (.lostCount, 0)
  | 0x26 => some (.lostCount, 1)
  | 0x27 => some (.readStatus, 0)
  | 0x28 => some (.queuePolicy, 0)
  | 0x29 => some (.levelThreshold, 0)
  | 0x2A => some (.queueFill, 0)
  | 0x2B => some (.sampleEntry, 0)
  | 0x2C => some (.recordData, 0)
  | _ =>
    if 0x10 ≤ a ∧ a ≤ 0x17 then some (.calendar, a - 0x10)
    else if 0x18 ≤ a ∧ a ≤ 0x1D then some (.timeLoad (a - 0x18), 0)
    else none

/-- The LIVE page (Table 57); `o` is the offset from 0x40. -/
def liveRegister (o : Nat) : Option (Reg × Nat) :=
  if o = 0x00 then some (.liveTag, 0)
  else if o = 0x01 then some (.liveTariff, 0)
  else if 0x02 ≤ o ∧ o ≤ 0x06 then some (.liveStamp, o - 0x02)
  else if o = 0x07 then some (.liveSecond, 0)
  else if 0x08 ≤ o ∧ o ≤ 0x09 then some (.liveCovered, o - 0x08)
  else if h : 0x0A ≤ o ∧ o < 0x0A + 24 then some (.liveLatest ⟨(o - 0x0A) / 4, by omega⟩, (o - 0x0A) % 4)
  else none

/-- The field of a channel entry at a byte of its ten. -/
def channelField (k : Nat) : ChannelField × Nat :=
  match k with
  | 0 => (.enabled, 0)
  | 1 => (.source, 0)
  | 2 => (.mode, 0)
  | 3 => (.overflow, 0)
  | 4 => (.rounding, 0)
  | 5 => (.offset, 0)
  | 6 => (.offset, 1)
  | 7 => (.offset, 2)
  | 8 => (.gain, 0)
  | _ => (.gain, 1)

/-- The CHANNELS page (Table 57). -/
def channelsRegister (o : Nat) : Option (Reg × Nat) :=
  if h : o < 60 then
    let f := channelField (o % 10)
    some (.channel ⟨o / 10, by omega⟩ f.1, f.2)
  else none

/-- The SCHEDULE page (Table 57). -/
def scheduleRegister (o : Nat) : Option (Reg × Nat) :=
  if h : o < 7 then some (.dayType ⟨o, h⟩, 0)
  else if o = 7 then some (.defaultTariff, 0)
  else if o = 8 then some (.schedSlot, 0)
  else if o ≤ 0x0D then some (.schedField (o - 9), 0)
  else none

/-- The SPECIAL_DAYS page (Table 57). -/
def specialsRegister (o : Nat) : Option (Reg × Nat) :=
  if o = 0 then some (.specSlot, 0) else if o ≤ 6 then some (.specField (o - 1), 0) else none

/-- The SNAPSHOT page (Table 57). -/
def snapshotRegister (o : Nat) : Option (Reg × Nat) :=
  if o = 0x00 then some (.snapValid, 0)
  else if o ≤ 0x07 then some (.snapTime, o - 0x01)
  else if o ≤ 0x09 then some (.snapSequence, o - 0x08)
  else if o = 0x0A then some (.snapNone, 0)
  else if o ≤ 0x0C then some (.snapItem, o - 0x0B)
  else if o ≤ 0x20 then some (.snapView, o - 0x0D)
  else none

/-- The register at an address under a page, and the byte of it; none for an unused address (R172). -/
def registerAt (page : Page) (a : Nat) : Option (Reg × Nat) :=
  if a < 0x40 then fixedRegister a
  else
    match page with
    | .live => liveRegister (a - 0x40)
    | .channels => channelsRegister (a - 0x40)
    | .schedule => scheduleRegister (a - 0x40)
    | .specialDays => specialsRegister (a - 0x40)
    | .snapshot => snapshotRegister (a - 0x40)

/-! ### Code values -/

/-- Page numbers (R171). -/
def Page.code : Page → Nat
  | .live => 0
  | .channels => 1
  | .schedule => 2
  | .specialDays => 3
  | .snapshot => 4

/-- The page that a byte selects (R171). -/
def pageOf (b : Byte) : Option Page :=
  match b.toNat with
  | 0 => some .live
  | 1 => some .channels
  | 2 => some .schedule
  | 3 => some .specialDays
  | 4 => some .snapshot
  | _ => none

/-- Mode bytes (R159). -/
def OutputMode.code : OutputMode → Nat
  | .off => 0
  | .level => 1
  | .pulse => 2
  | .marker => 3

/-- The mode that a byte gives (R159). -/
def modeOf (b : Byte) : Option OutputMode :=
  match b.toNat with
  | 0 => some .off
  | 1 => some .level
  | 2 => some .pulse
  | 3 => some .marker
  | _ => none

/-- Result codes (R173). -/
def CmdResult.code : CmdResult → Nat
  | .ok => 0
  | .pending => 1
  | .badArg => 2
  | .busy => 3
  | .empty => 4
  | .noHold => 5
  | .noPending => 6
  | .crosses => 7
  | .frozen => 8
  | .aborted => 9
  | .unknown => 10

/-- Command codes (Table 59). -/
def Cmd.code : Cmd → Byte
  | .timeLoad => 1
  | .timeTrim => 2
  | .configCommit => 3
  | .configCancel => 4
  | .configFetch => 5
  | .forceClose => 6
  | .snapshot => 7
  | .totalsClear => 8
  | .demandReset => 9
  | .recordOpen => 10
  | .recordRelease => 11
  | .queueFlush => 12
  | .softReset => 13

/-- A code that Table 59 gives to no command (R174). -/
def unknownCode (code : Byte) : Bool := code == 0 || 14 ≤ code

/-- Config fault tables (Table 56, CONFIG_FAULT). -/
def FaultTable.code : FaultTable → Nat
  | .none => 0
  | .length => 1
  | .channels => 2
  | .dayTypeMap => 3
  | .defaultTariff => 4
  | .schedule => 5
  | .specialDays => 6

/-- Read status values (Table 56, READ_STATUS). -/
def ReadStatus.code : ReadStatus → Nat
  | .noRecord => 0
  | .reading => 1
  | .checkOk => 2
  | .checkBad => 3
  | .pastEnd => 4

/-! ### What a register reads -/

/-- A truth value as a number: 1 for true, 0 for false. Where a table of R172 gives an indication no values, this is the model's
choice (log 28). -/
def flagNat (b : Bool) : Nat := if b then 1 else 0

/-- A number as one byte. -/
def byteOf (n : Nat) : Byte := BitVec.ofNat 8 n

/-- The bytes of a stamp: year less 2000, month, day, hour, minute. -/
def Stamp.bytes (t : Stamp) : List Byte := [byteOf t.year, byteOf t.month, byteOf t.day, byteOf t.hour, byteOf t.minute]

/-- STATUS (Table 56): [7] start cause, [6] CAL_VALID, [5] COMMIT_PENDING, [4] CLOSE_BUSY, [3] HOLD, [2] command state;
bits 6 to 3 are 1 for true (log 28). -/
def State.statusByte (s : State) : Byte :=
  bit (s.monitor.startCause == .returned) ++ bit s.cal.valid ++ bit s.cfg.commitPending ++ bit s.closeBusy
    ++ bit s.queue.hold ++ bit s.main.cmd.waiting.isSome ++ 0#2

/-- The calendar image (R49); the byte of CAL_VALID is 1 for true, 0 for false (log 28). -/
def Calendar.image (c : Calendar) : List Byte :=
  c.time.stamp.bytes ++ [byteOf c.time.second, byteOf c.dayOfWeek, byteOf (flagNat c.valid)]

/-- The latest-value view of a channel (R36): an absent entry reads 0. Table 57 gives bits 0 and 1 of the first byte; that bits 7 to 2
read 0 is the model's choice (log 28). -/
def latestBytes : Option Latest → List Byte
  | none => [0, 0, 0, 0]
  | some l => byteOf (1 + 2 * flagNat (l.tag == .b)) :: beBytes 3 l.value.toNat

/-- The bytes of a channel field of the staged set. -/
def ChannelEntry.fieldBytes (e : ChannelEntry) : ChannelField → List Byte
  | .enabled => [e.enabled]
  | .source => [e.source]
  | .mode => [e.mode]
  | .overflow => [e.overflow]
  | .rounding => [e.rounding]
  | .offset => beBytes 3 e.offset.toNat
  | .gain => beBytes 2 e.gain.toNat

/-- The fields of a schedule slot in the order of Table 57. -/
def SchedSlot.bytes (x : SchedSlot) : List Byte := [x.used, x.dayType, x.hour, x.minute, x.tariff]

/-- The fields of a special-day slot in the order of Table 57. -/
def SpecSlot.bytes (x : SpecSlot) : List Byte := [x.used, x.month, x.day, x.yearPresent, x.year, x.dayType]

/-- The time load fields in the order of Table 56. -/
def TimeLoadFields.bytes (f : TimeLoadFields) : List Byte := [f.year, f.month, f.day, f.hour, f.minute, f.second]

/-- The demand part of the item view: presence and OVF bits, 1 for present and for set (log 28), value, stamp; an absent entry reads 0
(R121, R126). -/
def demandView : Option DemandEntry → Nat × List Byte
  | none => (0, List.replicate 11 0)
  | some d => (2 + flagNat d.ovf, beBytes 6 d.value.toNat ++ d.stamp.bytes)

/-- The item view of the snapshot image (R126): total, flags, demand value, demand start stamp. Table 57 gives bits 2 to 0 of the flags
byte; that bits 7 to 3 read 0 is the model's choice (log 28). -/
def SnapshotImage.view (m : SnapshotImage) (item : Fin 6 × Fin 4) : List Byte :=
  let t := m.totals[item.1][item.2]
  let d := demandView m.demand[item.1][item.2]
  beBytes 8 t.value.toNat ++ byteOf (4 * flagNat t.ovf + d.1) :: d.2

/-- The snapshot time (Table 57): seven bytes, that of CAL_VALID 1 for true and 0 for false (log 28). -/
def SnapshotImage.timeBytes (m : SnapshotImage) : List Byte :=
  m.time.stamp.bytes ++ [byteOf m.time.second, byteOf (flagNat m.calValid)]

/-- While valid is false the bytes of the image read 0 (R126). -/
def SnapshotImage.gate (m : SnapshotImage) (bytes : List Byte) : List Byte :=
  if m.valid then bytes else List.replicate bytes.length 0

/-- The bytes of a register as its owner holds them (R168, Tables 56 and 57). Bits and values that the tables leave out (bits 15 to 12
of PENDING, the byte of the snapshot image's valid) are those of log 28. A write-only register and the streaming ports
read 0 here; RECORD_DATA is read by `State.readRecordByte`. -/
def State.regBytes (s : State) : Reg → List Byte
  | .page => [byteOf s.main.win.page.code]
  | .status => [s.statusByte]
  | .cmdResult => [s.main.cmd.resultCode, byteOf s.main.cmd.result.code]
  | .command => [0, 0]
  | .pendingSet => beBytes 2 s.events.pending.toNat
  | .causeClear => [0, 0]
  | .mask pin => beBytes 2 (s.events.output pin).mask.toNat
  | .mode pin => [byteOf (s.events.output pin).mode.code]
  | .calendar => s.cal.image
  | .timeLoad i => [s.main.timeLoad.bytes.getD i 0]
  | .length => [s.cfg.staged.lengthCode]
  | .configFault => [byteOf s.cfg.fault.1.code, byteOf s.cfg.fault.2]
  | .recordCount => beBytes 2 s.queue.count
  | .usedWords => beBytes 2 s.queue.used
  | .lostCount => beBytes 2 s.queue.lost.toNat
  | .readStatus => [byteOf s.queue.readStatus.code]
  | .queuePolicy => [byteOf (flagNat s.queue.overwrite)]
  | .levelThreshold => [s.queue.threshold]
  | .queueFill => [byteOf s.main.samples.length]
  | .sampleEntry => [0]
  | .recordData => [0]
  | .liveTag => [byteOf (flagNat (s.openTag == .b))]
  | .liveTariff => [byteOf s.openBank.tariff.val]
  | .liveStamp => s.openBank.start.stamp.bytes
  | .liveSecond => [byteOf s.openBank.start.second]
  | .liveCovered => beBytes 2 s.openBank.covered.toNat
  | .liveLatest c => latestBytes s.main.latest[c]
  | .channel c f => s.cfg.staged.channels[c].fieldBytes f
  | .dayType i => [s.cfg.staged.dayTypes[i]]
  | .defaultTariff => [s.cfg.staged.defaultTariff]
  | .schedSlot => [byteOf s.main.win.schedSlot.val]
  | .schedField i => [s.cfg.staged.schedule[s.main.win.schedSlot].bytes.getD i 0]
  | .specSlot => [byteOf s.main.win.specSlot.val]
  | .specField i => [s.cfg.staged.specials[s.main.win.specSlot].bytes.getD i 0]
  | .snapValid => [byteOf (flagNat s.main.image.valid)]
  | .snapTime => s.main.image.gate s.main.image.timeBytes
  | .snapSequence => s.main.image.gate (beBytes 2 s.main.image.lastSeq.toNat)
  | .snapNone => s.main.image.gate [byteOf (flagNat s.main.image.lastSeqNone)]
  | .snapItem => [byteOf s.main.snapItem.1.val, byteOf s.main.snapItem.2.val]
  | .snapView => s.main.image.gate (s.main.image.view s.main.snapItem)

/-! ### Transactions -/

/-- The streaming ports (R167). -/
def streaming (p : BitVec 7) : Bool := p == 0x2B || p == 0x2C

/-- The pointer after a slot: one on within its region, unless it stands at a streaming port (R166, R167). -/
def nextPointer (p : BitVec 7) : BitVec 7 :=
  if streaming p then p else if p = 0x3F then 0x00 else if p = 0x7F then 0x40 else p + 1

/-- A change of the window controller. -/
def State.modifyWin (s : State) (f : Window → Window) : State := { s with main := { s.main with win := f s.main.win } }

/-- The pointer moves on after a slot (R166). -/
def State.advance (s : State) : State := s.modifyWin fun w => { w with pointer := nextPointer w.pointer }

/-- The register at the pointer and the byte of it. -/
def State.pointed (s : State) : Option (Reg × Nat) := registerAt s.main.win.page s.main.win.pointer.toNat

/-- The address at which the field of byte k at the pointer begins. -/
def State.fieldStart (s : State) (k : Nat) : Nat := s.main.win.pointer.toNat - k

/-- A write transaction stands in DATA, so that a byte slot is a write access (R166). -/
def State.writing (s : State) : Bool := s.inMain && s.main.win.txn == .data && !s.main.win.reading

/-- A read transaction stands in DATA (R166). -/
def State.readingSlot (s : State) : Bool := s.inMain && s.main.win.txn == .data && s.main.win.reading

/-- The field latch holds the first k bytes of the field at the pointer (R169); for k = 0 nothing is needed. -/
def State.latched (s : State) (k : Nat) : Option (List Byte) :=
  if k = 0 then some []
  else
    match s.main.win.latch with
    | some l => if l.start = s.fieldStart k ∧ l.bytes.length = k then some l.bytes else none
    | none => none

/-- The field latch is emptied. -/
def State.clearLatch (s : State) : State := s.modifyWin fun w => { w with latch := none }

/-- A write byte that is ignored with WINDOW_FAULT (R169, R170). -/
def State.ignoredByte (s : State) : State := s.advance.setCause .windowFault

/-- A write byte arrives at the last byte of a writable field that `select` accepts. With the earlier bytes in the latch the
field takes effect: `act` gets the register and all its bytes, on the state with the pointer moved on. Without them the byte is
ignored with WINDOW_FAULT (R169). Elsewhere this step does not take place (log 1). -/
def State.fieldWrite (s : State) (select : Reg → Bool) (b : Byte) (act : Reg → List Byte → State → State) : State :=
  match s.pointed with
  | some (r, k) =>
    if s.writing = true ∧ select r = true ∧ k + 1 = r.width then
      match s.latched k with
      | some earlier => act r (earlier ++ [b]) s.clearLatch.advance
      | none => s.ignoredByte
    else s
  | none => s

/-- A byte of RECORD_DATA (R109, R111): the byte sent, and the state after it. The word is read from the record memory again for each
of its bytes, and the one that stands there at the fourth byte joins the running sum: the model's choice where a memory fault falls
between the bytes of one word (log 27). -/
def State.readRecordByte (s : State) : Byte × State :=
  if s.queue.readStatus = .reading then
    let byte := wordByte s.queue.currentWord s.main.win.wordPos
    if s.main.win.wordPos = 3 then
      let q := s.queue.deliver
      (byte, ({ s with queue := q }.modifyWin fun w => { w with wordPos := 0 }).setCauseIf
        (q.readStatus == ReadStatus.checkBad) .checkBad)
    else (byte, s.modifyWin fun w => { w with wordPos := w.wordPos + 1 })
  else (0, { s with queue := s.queue.readPastEnd })

/-- The bytes from which a byte of a multi-byte register is read, and the state with the capture (R168): the calendar image is
captured once in a transaction (R49); another field is captured at its first byte, or at the first byte of it that the
transaction reads (log 13). -/
def State.captured (s : State) (r : Reg) (k : Nat) : List Byte × State :=
  if r = .calendar then
    match s.main.win.calImage with
    | some bytes => (bytes, s)
    | none => (s.regBytes r, s.modifyWin fun w => { w with calImage := some (s.regBytes r) })
  else if r.width = 1 then (s.regBytes r, s)
  else
    let fresh := (s.regBytes r, s.modifyWin fun w => { w with capture := some ⟨s.fieldStart k, s.regBytes r⟩ })
    match s.main.win.capture with
    | some c => if k ≠ 0 ∧ c.start = s.fieldStart k then (c.bytes, s) else fresh
    | none => fresh

/-- The byte that a read slot sends (R166, R168), and the state before the pointer moves on. -/
def State.readByte (s : State) : Byte × State :=
  match s.pointed with
  | none => (0, s)
  | some (r, k) =>
    if r = .recordData then s.readRecordByte
    else
      let c := s.captured r k
      (c.1.getD k 0, c.2)

end Sys2Proof.Machine
end

