-- ==== Sys2Proof/Machine/CommandUnit.lean ====
section
/-! DEFINITION. The command unit (R173 to R177) and what each command's owner does when the command is handed to it. -/

namespace Sys2Proof.Machine

/-! ### Results -/

/-- CMD_RESULT takes a code and a result, and CMD_DONE is set (R176, R177). -/
def State.report (s : State) (code : Byte) (r : CmdResult) : State :=
  { s with main := { s.main with cmd := { s.main.cmd with resultCode := code, result := r } } }.setCause .cmdDone

/-- A command completes: the command unit returns to IDLE and reports (R175, R177). -/
def State.complete (s : State) (code : Byte) (r : CmdResult) : State :=
  { s with main := { s.main with cmd := { s.main.cmd with waiting := none } } }.report code r

/-! ### Owners -/

/-- TIME_LOAD proceeds (R51, R52). -/
def State.doTimeLoad (s : State) : State :=
  let t := s.main.timeLoad.time
  if t.valid then
    ({ s with cal := { s.cal.at t with phase := 0, valid := true } }.triggerClose .timeLoad t true).complete Cmd.timeLoad.code .ok
  else s.complete Cmd.timeLoad.code .badArg

/-- A TIME_TRIM argument that R53 accepts: from -30 to -1 or from 1 to 30. -/
def trimAccepted (arg : Byte) : Bool := arg.toInt != 0 && -30 ≤ arg.toInt && arg.toInt ≤ 30

/-- The trimmed time crosses the OPEN bank's interval (R54). -/
def State.trimCrosses (s : State) (n : Int) : Bool :=
  let moved : Int := s.cal.time.seconds + n
  (0 < n && endSeconds s.openBank.endBoundary ≤ moved) || (n < 0 && moved < s.openBank.start.seconds)

/-- TIME_TRIM proceeds (R53 to R55). -/
def State.doTimeTrim (s : State) (arg : Byte) : State :=
  if trimAccepted arg = false then s.complete Cmd.timeTrim.code .badArg
  else if s.trimCrosses arg.toInt then s.complete Cmd.timeTrim.code .crosses
  else { s with cal := s.cal.at (shiftSeconds s.cal.time arg.toInt) }.complete Cmd.timeTrim.code .ok

/-- A validation of the staged set: the config fault field takes its outcome (R136). -/
def State.validated (s : State) : State :=
  { s with cfg := { s.cfg with fault := s.cfg.staged.firstFault.getD (.none, 0) } }

/-- CONFIG_COMMIT AT_NEXT (R137). -/
def State.doCommitAtNext (s : State) : State :=
  if s.cfg.commitPending then s.complete Cmd.configCommit.code .pending
  else if s.cfg.staged.passes then
    let s1 := s.validated
    { s1 with cfg := { s1.cfg with commitPending := true } }.complete Cmd.configCommit.code .pending
  else s.validated.complete Cmd.configCommit.code .badArg

/-- CONFIG_COMMIT NOW proceeds (R138). -/
def State.doCommitNow (s : State) : State :=
  if s.cfg.commitPending then (s.triggerClose .commitNow s.cal.time s.cal.valid).complete Cmd.configCommit.code .ok
  else if s.cfg.staged.passes then
    (s.validated.triggerClose .commitNow s.cal.time s.cal.valid).complete Cmd.configCommit.code .ok
  else s.validated.complete Cmd.configCommit.code .badArg

/-- CONFIG_COMMIT by its argument (R137, R138). -/
def State.doConfigCommit (s : State) (arg : Byte) : State :=
  if arg = 0 then s.doCommitAtNext
  else if arg = 1 then s.doCommitNow
  else s.complete Cmd.configCommit.code .badArg

/-- CONFIG_CANCEL (R140). -/
def State.doConfigCancel (s : State) : State :=
  if s.cfg.commitPending then
    { s with cfg := { s.cfg with commitPending := false } }.complete Cmd.configCancel.code .ok
  else s.complete Cmd.configCancel.code .noPending

/-- CONFIG_FETCH (R141). -/
def State.doConfigFetch (s : State) : State :=
  if s.cfg.commitPending then s.complete Cmd.configFetch.code .frozen
  else { s with cfg := { s.cfg with staged := s.cfg.active } }.complete Cmd.configFetch.code .ok

/-- FORCE_CLOSE is handed over (R76, R79). -/
def State.doForceClose (s : State) : State :=
  (s.triggerClose .forceClose s.cal.time s.cal.valid).complete Cmd.forceClose.code .ok

/-- The snapshot image that SNAPSHOT takes (R125); the bytes of a last sequence that is none are a free value (log 6). -/
def State.snapshotImage (s : State) : SnapshotImage where
  valid := true
  time := s.cal.time
  calValid := s.cal.valid
  lastSeq := if s.ic.anyBuilt then s.ic.nextSeq - 1 else Config.sequenceOfNone s.freeCount
  lastSeqNone := !s.ic.anyBuilt
  totals := s.totals
  demand := s.demand

/-- SNAPSHOT proceeds (R125). -/
def State.doSnapshot (s : State) : State :=
  { s with
    main := { s.main with image := s.snapshotImage }
    freeCount := s.freeCount + 1 }.complete Cmd.snapshot.code .ok

/-- TOTALS_CLEAR proceeds (R123). -/
def State.doTotalsClear (s : State) : State := { s with totals := .zero }.complete Cmd.totalsClear.code .ok

/-- DEMAND_RESET proceeds (R124). -/
def State.doDemandReset (s : State) : State := { s with demand := .absent }.complete Cmd.demandReset.code .ok

/-- RECORD_OPEN (R107, R108). -/
def State.doRecordOpen (s : State) : State :=
  if s.queue.hold = false ∧ s.queue.count = 0 then s.complete Cmd.recordOpen.code .empty
  else { s with queue := s.queue.startReading }.complete Cmd.recordOpen.code .ok

/-- RECORD_RELEASE (R112). -/
def State.doRecordRelease (s : State) : State :=
  if s.queue.hold then { s with queue := s.queue.dropHead.endHold }.complete Cmd.recordRelease.code .ok
  else s.complete Cmd.recordRelease.code .noHold

/-- QUEUE_FLUSH (R113). -/
def State.doQueueFlush (s : State) : State := { s with queue := s.queue.flushed }.complete Cmd.queueFlush.code .ok

/-- The window controller after SOFT_RESET (R171, R178): the rest of the transaction is ignored. -/
def Window.afterSoftReset (w : Window) : Window := { Window.start with txn := .ignoring, sdo := w.sdo }

/-- The main domain after SOFT_RESET, its samples discarded before (R178); the time load fields stay (R50). -/
def MainDomain.afterSoftReset (m : MainDomain) : MainDomain :=
  { MainDomain.start with
    timeLoad := m.timeLoad
    win := m.win.afterSoftReset
    cmd := { m.cmd with waiting := none } }

/-- SOFT_RESET (R178): it acts in one event, in IDLE or in WAITING; a waiting command is aborted. -/
def State.doSoftReset (s : State) : State :=
  let s1 := s.discardSamples
  let s2 := { s1 with
    main := s1.main.afterSoftReset
    cfg := { s1.cfg with commitPending := false }
    queue := s1.queue.endHold }
  match s.main.cmd.waiting with
  | some (c, _) => s2.report c.code .aborted
  | none => s2.report Cmd.softReset.code .ok

/-- A command acts as its owner's rules give (R174). -/
def State.owner (s : State) (c : Cmd) (arg : Byte) : State :=
  match c with
  | .timeLoad => s.doTimeLoad
  | .timeTrim => s.doTimeTrim arg
  | .configCommit => s.doConfigCommit arg
  | .configCancel => s.doConfigCancel
  | .configFetch => s.doConfigFetch
  | .forceClose => s.doForceClose
  | .snapshot => s.doSnapshot
  | .totalsClear => s.doTotalsClear
  | .demandReset => s.doDemandReset
  | .recordOpen => s.doRecordOpen
  | .recordRelease => s.doRecordRelease
  | .queueFlush => s.doQueueFlush
  | .softReset => s.doSoftReset

/-! ### Acceptance -/

/-- A command that waits for a close (Table 59); one whose argument fails at once does not wait (R174). -/
def Cmd.waits (c : Cmd) (arg : Byte) : Bool :=
  match c with
  | .timeLoad | .forceClose | .snapshot | .totalsClear | .demandReset => true
  | .timeTrim => trimAccepted arg
  | .configCommit => arg == 1
  | _ => false

/-- A command is written (R174, R176): refused with BUSY while another waits, except SOFT_RESET; made WAITING where it waits
for a close and one is in progress; handed to its owner otherwise. -/
def State.takeCommand (s : State) (c : Cmd) (arg : Byte) : State :=
  if c = .softReset then s.doSoftReset
  else if s.main.cmd.waiting.isSome then s.report c.code .busy
  else if c.waits arg && s.closeBusy then
    { s with main := { s.main with cmd := { s.main.cmd with waiting := some (c, arg) } } }
  else s.owner c arg

/-- A code that names no command is written (R174, R176). -/
def State.takeUnknown (s : State) (code : Byte) : State :=
  if s.main.cmd.waiting.isSome then s.report code .busy else s.complete code .unknown

/-- The second byte of COMMAND arrives, with a code in the field latch that `select` accepts (R169, R174). With no code in the
latch the byte is ignored with WINDOW_FAULT (R169). Elsewhere this step does not take place (log 1). -/
def State.commandByte (s : State) (select : Byte → Bool) (act : Byte → State → State) : State :=
  if s.writing = true ∧ s.pointed = some (.command, 1) then
    match s.latched 1 with
    | some bytes => if select (bytes.headD 0) then act (bytes.headD 0) s.clearLatch.advance else s
    | none => s.ignoredByte
  else s

/-- The second byte of COMMAND arrives for one command of Table 59. -/
def State.commandRow (s : State) (c : Cmd) (arg : Byte) : State :=
  s.commandByte (· == c.code) fun _ s => s.takeCommand c arg

/-- A WAITING command is handed to its owner (R175); with a close in progress again it stays WAITING. -/
def State.handOver (s : State) : State :=
  if s.inMain ∧ s.closeBusy = false then
    match s.main.cmd.waiting with
    | some (c, arg) => s.owner c arg
    | none => s
  else s

end Sys2Proof.Machine
end

