-- ==== Sys2Proof/Machine/Crystal.lean ====
section
/-! DEFINITION. Supplies (R144 to R146, R151, R163, R164), cold start (R96, R145) and one crystal period (R39, R144, R161). -/

namespace Sys2Proof.Machine

/-! ### Backup entry and return -/

/-- An output at backup entry (R163): a pulse REQUESTED or LOW is ended and leaves the return mark. -/
def EventOutput.atEntry (o : EventOutput) : EventOutput :=
  { o with pulse := .idle, returnMark := o.returnMark || o.pulse != .idle }

/-- The abandon mark at backup entry (R146): a WAITING command leaves its code. -/
def State.markAtEntry (s : State) : Option Byte :=
  match s.main.cmd.waiting with
  | some (c, _) => some c.code
  | none => s.monitor.abandonMark

/-- Backup entry (R144, R146, R147, R163, R92, R115, R16): the samples are discarded and counted, the OPEN bank takes POWER, a
hold ends, the outputs are released, and the main domain is lost. -/
def State.enterBackup (s : State) : State :=
  let s1 := { s with
    monitor := { s.monitor with supply := .backup, vddOk := false, settling := 0, abandonMark := s.markAtEntry }
    queue := s.queue.endHold
    ic := { s.ic with backupBoundary := .noneTaken }
    events := { s.events with a := s.events.a.atEntry, b := s.events.b.atEntry } }
  { (s1.modifyOpen fun b => { b with flags := { b.flags with power := true } }).discardSamples with main := .start }

/-- An output at backup return (R164): in PULSE mode a return mark requests one pulse; the mark becomes absent. -/
def EventOutput.atReturn (o : EventOutput) : EventOutput :=
  { o with
    pulse := if o.mode = .pulse ∧ o.returnMark = true ∧ o.pulse = .idle then .requested else o.pulse
    returnMark := false }

/-- The start cause after a backup return (R144). -/
def Monitor.causeAfterReturn (m : Monitor) : StartCause := if m.coldIntoBackup then m.startCause else .returned

/-- The report of an abandoned command (R146, R179). -/
def State.reportAbandoned (s : State) : State :=
  match s.monitor.abandonMark with
  | some code => { s with monitor := { s.monitor with abandonMark := none } }.report code .aborted
  | none => s

/-- A GAP record becomes due at backup return when intervals were missed (R151). -/
def State.markGapDue (s : State) : State :=
  { s with ic := { s.ic with gapDue := s.ic.gapDue || s.ic.missed != 0 } }

/-- Backup return (R144, R151): MAIN, the main domain starts, SUPPLY is set, the outputs resume, an abandoned command is
reported, and a GAP record becomes due and is built with the close stage IDLE (R152). Every cause set in the event is set in MAIN, so
that CMD_DONE, QUEUE_LEVEL and QUEUE_LOSS request a pulse by R161 as SUPPLY does by R164: the model's reading (log 29). -/
def State.returnToMain (s : State) : State :=
  let s1 := { s with
    monitor := { s.monitor with
      supply := .main, settling := 0, startCause := s.monitor.causeAfterReturn, coldIntoBackup := false }
    main := .start
    events := { s.events with a := s.events.a.atReturn, b := s.events.b.atReturn } }
  (s1.setCause .supply).reportAbandoned.markGapDue.buildDueGap

/-! ### Loss and cold start -/

/-- Every block in the state in which a cold start begins, bank A not yet open; the pins, the queue of commands and the
model's counter stay. -/
def State.blank (s : State) (m : Monitor) : State :=
  { State.reset with
    pending := s.pending
    freeCount := s.freeCount
    csnHigh := s.csnHigh
    monitor := m
    bankA := Bank.zero }

/-- Both supplies absent: every domain loses its state (R145). What a lost block holds is not observable before the cold start
that sets it; the model keeps the cold-start values there (log 9). -/
def State.losePower (s : State) : State :=
  { s.blank ⟨.absent, false, 0, .cold, false, none⟩ with bankA := Bank.coldOpen false }

/-- A cold start (R145, R96): the supply state as the cold start finds VDD, every block in its cold-start state, and bank A
opened at 2000-01-01 00:00:00 as R78 describes. -/
def State.coldStart (s : State) (vddOk : Bool) : State :=
  (s.blank ⟨if vddOk then .main else .backup, vddOk, 0, .cold, !vddOk, none⟩).opening .boundary .origin false .a

/-! ### One crystal period -/

/-- The settling count at a crystal period (R144): in BACKUP with VDD at or above VDET it increases, and at 8192 backup return
takes place. -/
def State.settle (s : State) : State :=
  if s.monitor.supply = .backup ∧ s.monitor.vddOk = true then
    if Config.settlePeriods ≤ s.monitor.settling + 1 then s.returnToMain
    else { s with monitor := { s.monitor with settling := s.monitor.settling + 1 } }
  else s

/-- The pulse of an output at a crystal period edge (R161), by its state before the edge: a request made in the same period
waits for the next edge. -/
def EventOutput.edge (now : EventOutput) (before : Pulse) : EventOutput :=
  if before = .idle then now else { now with pulse := before.edge }

/-- Settling and pulses at a crystal period; `before` is the event unit before the period. -/
def State.edges (s : State) (before : EventUnit) : State :=
  let s1 := s.settle
  { s1 with events := { s1.events with a := s1.events.a.edge before.a.pulse, b := s1.events.b.edge before.b.pulse } }

/-- The second phase at a crystal period (R39): it increases by one, or passes 32767 and the second event takes place. -/
def State.phaseStep (s : State) : State :=
  if s.cal.phase + 1 < Config.phasePeriods then { s with cal := { s.cal with phase := s.cal.phase + 1 } } else s.secondEvent

/-- One crystal period. Where it is a second event, the order of the second event and of the other events of the period is a
free value (log 4). -/
def State.crystalPeriod (s : State) : State :=
  if s.ticking then
    if s.cal.phase + 1 < Config.phasePeriods then (s.edges s.events).phaseStep
    else
      let s1 := { s with freeCount := s.freeCount + 1 }
      if Config.secondEventFirst s.freeCount then s1.phaseStep.edges s.events else (s1.edges s.events).phaseStep
  else s

end Sys2Proof.Machine
end

