-- ==== Sys2Proof/Machine/Close.lean ====
section
/-! DEFINITION. The stages of a close after its drain: BUILD (R83, R84), CREDIT (R85), STORE with the completion (R86, R87). Each
stage acts in its own close stage; elsewhere the step does not take place (log 1). -/

namespace Sys2Proof.Machine

/-- The record of the closing bank (R83). -/
def State.closingRecord (s : State) : Record := (s.bank s.openTag.other).record s.ic.nextSeq s.queue.lost

/-- The BUILD stage (R83, R84). -/
def State.buildStage (s : State) : State :=
  { s with ic := { s.ic with
      built := some s.closingRecord, nextSeq := s.ic.nextSeq + 1, anyBuilt := true, stage := .credit } }

/-- BUILD (R83). -/
def execBuild (s : State) : Answer State := .next (if s.ic.stage = .build then s.buildStage else s)

/-- The CREDIT stage (R85). -/
def State.creditStage (s : State) : State :=
  let s1 := match s.ic.built with
    | some r => s.creditRecord r
    | none => s
  { s1 with ic := { s1.ic with stage := .store } }

/-- CREDIT (R85). -/
def execCredit (s : State) : Answer State := .next (if s.ic.stage = .credit then s.creditStage else s)

/-- The STORE stage and the completion of the close (R86, R87). -/
def State.storeStage (s : State) : State :=
  let s1 := match s.ic.built with
    | some r => s.offerRecord r
    | none => s
  s1.completeClose

/-- STORE (R86). -/
def execStore (s : State) : Answer State := .next (if s.ic.stage = .store then s.storeStage else s)

end Sys2Proof.Machine
end

