-- ==== Sys2Proof/Machine/Commands.lean ====
section
/-! DEFINITION. The command rows: the arrival of COMMAND's second byte, the argument, for each command of Table 59 (R173, R174),
and COMMAND_HANDOVER (R175). -/

namespace Sys2Proof.Machine

/-- TIME_LOAD (R50 to R52). -/
def execTimeLoad (arg : Byte) (s : State) : Answer State := .next (s.commandRow .timeLoad arg)

/-- TIME_TRIM (R53 to R55). -/
def execTimeTrim (arg : Byte) (s : State) : Answer State := .next (s.commandRow .timeTrim arg)

/-- CONFIG_COMMIT with an argument other than 1 (R137): AT_NEXT for 0, BAD_ARG for 2 to 255. With argument 1 the command is
CONFIG_COMMIT_NOW, and this step does not take place. -/
def execConfigCommitAtNext (arg : Byte) (s : State) : Answer State :=
  .next (if arg = 1 then s else s.commandRow .configCommit arg)

/-- CONFIG_COMMIT with argument 1, NOW (R138). -/
def execConfigCommitNow (s : State) : Answer State := .next (s.commandRow .configCommit 1)

/-- CONFIG_CANCEL (R140). -/
def execConfigCancel (arg : Byte) (s : State) : Answer State := .next (s.commandRow .configCancel arg)

/-- CONFIG_FETCH (R141). -/
def execConfigFetch (arg : Byte) (s : State) : Answer State := .next (s.commandRow .configFetch arg)

/-- FORCE_CLOSE (R76). -/
def execForceClose (arg : Byte) (s : State) : Answer State := .next (s.commandRow .forceClose arg)

/-- SNAPSHOT (R125). -/
def execSnapshot (arg : Byte) (s : State) : Answer State := .next (s.commandRow .snapshot arg)

/-- TOTALS_CLEAR (R123). -/
def execTotalsClear (arg : Byte) (s : State) : Answer State := .next (s.commandRow .totalsClear arg)

/-- DEMAND_RESET (R124). -/
def execDemandReset (arg : Byte) (s : State) : Answer State := .next (s.commandRow .demandReset arg)

/-- RECORD_OPEN (R107, R108). -/
def execRecordOpen (arg : Byte) (s : State) : Answer State := .next (s.commandRow .recordOpen arg)

/-- RECORD_RELEASE (R112). -/
def execRecordRelease (arg : Byte) (s : State) : Answer State := .next (s.commandRow .recordRelease arg)

/-- QUEUE_FLUSH (R113). -/
def execQueueFlush (arg : Byte) (s : State) : Answer State := .next (s.commandRow .queueFlush arg)

/-- SOFT_RESET (R178). -/
def execSoftReset (arg : Byte) (s : State) : Answer State := .next (s.commandRow .softReset arg)

/-- UNKNOWN_COMMAND: a command code of 0 or 14 to 255 (R174). -/
def execUnknownCommand (_arg : Byte) (s : State) : Answer State := .next (s.commandByte unknownCode fun code s => s.takeUnknown code)

/-- COMMAND_HANDOVER (R175). -/
def execCommandHandover (s : State) : Answer State := .next s.handOver

end Sys2Proof.Machine
end

