-- ==== Sys2Proof/Machine/Engine.lean ====
section
/-! DEFINITION. The scaling engine's steps: ENGINE_TAKE (R15, R18), ACCUMULATION (R18, R19, R82). -/

namespace Sys2Proof.Machine

/-- ENGINE_TAKE (R15, R18): the IDLE engine takes the oldest entry. -/
def execEngineTake (s : State) : Answer State := .next (if s.inMain then { s with main := s.main.take } else s)

/-- The engine completes its entry, becomes IDLE, and takes the next entry at once where there is one (R18, R19); the drain
check follows (R82). -/
def State.completeAccumulation (s : State) (x : Sample) : State :=
  let s1 := s.accumulate x
  { s1 with main := { s1.main with engine := none }.take }.drainCheck

/-- ACCUMULATION (R19). -/
def execAccumulation (s : State) : Answer State :=
  .next (match s.main.engine with
    | some x => if s.inMain then s.completeAccumulation x else s
    | none => s)

end Sys2Proof.Machine
end

