-- ==== Sys2Proof/Machine/Events.lean ====
section
/-! DEFINITION. The pulses of the event outputs, PULSE_START and PULSE_END (R161), and RECORD_MEMORY_FAULT (R98). -/

namespace Sys2Proof.Machine

/-- An output with a new pulse state. -/
def State.withPulse (s : State) (pin : EventPin) (p : Pulse) : State :=
  { s with events := s.events.withOutput pin { s.events.output pin with pulse := p } }

/-- PULSE_START (R161): at the crystal period edge after a request the output is driven low with 2 periods remaining.
The row moves this output's pulse alone: the second phase, the settling count and the other output's pulse, which a crystal period
moves too, stay (the model's choice, log 3). -/
def execPulseStart (pin : EventPin) (s : State) : Answer State :=
  .next (if s.ticking = true ∧ (s.events.output pin).pulse = .requested then s.withPulse pin .low2 else s)

/-- PULSE_END (R161): the pulse count expires and the output is released. From LOW with 2 periods the command stands for both;
it too moves this output's pulse alone (log 3). -/
def execPulseEnd (pin : EventPin) (s : State) : Answer State :=
  .next (if s.ticking = true ∧ ((s.events.output pin).pulse = .low2 ∨ (s.events.output pin).pulse = .low1) then
      s.withPulse pin .idle
    else s)

/-- RECORD_MEMORY_FAULT (R98): bits of a word of the record memory change. With both supplies absent there is no memory. -/
def execRecordMemoryFault (address : BitVec 11) (flips : Word) (s : State) : Answer State :=
  .next (if s.monitor.supply = .absent then s
    else { s with queue := { s.queue with
        mem := s.queue.mem.write address.toNat (s.queue.mem.read address.toNat ^^^ flips) } })

end Sys2Proof.Machine
end

