-- ==== Sys2Proof/Machine/LinkReceiver.lean ====
section
/-! DEFINITION. The sample link (R1 to R7): LINK_BIT, LINK_FRAME, FRAME_TRUNCATED. Each of the three rows is one rising edge of
LCK, whose effect R1's table gives for every state of the receiver (log 26). -/

namespace Sys2Proof.Machine

/-- The tag of a frame, bits [31:28] (Table 8). -/
def frameTag (w : Word) : BitVec 4 := w.extractLsb' 28 4

/-- The value of a frame, bits [27:4] (Table 8). -/
def frameValue (w : Word) : BitVec 24 := w.extractLsb' 4 24

/-- The sequence of a frame, bits [3:1] (Table 8). -/
def frameSequence (w : Word) : BitVec 3 := w.extractLsb' 1 3

/-- The number of ones in a frame (R3). -/
def onesCount (w : Word) : Nat := (List.range 32).countP fun i => w.getLsbD i

/-- A frame has bad parity: an odd number of ones (R3). -/
def badParity (w : Word) : Bool := onesCount w % 2 == 1

/-- The bits received so far with the next one. -/
def nextBits (bits : Word) (lda : Bool) : Word := bits <<< 1 ||| (BitVec.ofBool lda).setWidth 32

/-- A change of the link receiver. -/
def State.withLink (s : State) (l : Link) : State := { s with main := { s.main with link := l } }

/-- The sequence check of a frame with good parity (R4, R5). -/
def State.checkSequence (s : State) (r : BitVec 3) : State :=
  let l := s.main.link
  let s1 := s.withLink { l with expected := r + 1, resyncPending := false }
  if l.resyncPending = true ∨ r = l.expected then s1
  else (s1.modifyOpen fun b => { b with gaps := satAdd b.gaps (r - l.expected).toNat }).setCause .linkError

/-- The decision on a complete frame: parity, then sequence, then channel (R3 to R6). -/
def State.decideFrame (s : State) (w : Word) : State :=
  if badParity w then s.reject .linkError
  else (s.checkSequence (frameSequence w)).intake false (frameTag w).toNat (frameValue w) .linkError

/-- A frame begins with this bit as its bit 31 (R1). -/
def State.beginFrame (s : State) (lda : Bool) : State :=
  s.withLink { s.main.link with shift := .shifting 1 (nextBits 0 lda) }

/-- A rising edge of LCK (R1, R2); outside MAIN the receiver takes no edges (R8). -/
def State.linkEdge (s : State) (lfs lda : Bool) : State :=
  if s.inMain then
    match lfs, s.main.link.shift with
    | true, .hunt => s.beginFrame lda
    | true, .shifting _ _ => (s.reject .linkError).beginFrame lda
    | false, .hunt => s
    | false, .shifting n bits =>
      if n < 31 then s.withLink { s.main.link with shift := .shifting (n + 1) (nextBits bits lda) }
      else (s.withLink { s.main.link with shift := .hunt }).decideFrame (nextBits bits lda)
  else s

/-- LINK_BIT (R1). -/
def execLinkBit (lfs lda : Bool) (s : State) : Answer State := .next (s.linkEdge lfs lda)

/-- LINK_FRAME: the edge with LFS low that brings the 32nd bit (R1, R3 to R6). -/
def execLinkFrame (lda : Bool) (s : State) : Answer State := .next (s.linkEdge false lda)

/-- FRAME_TRUNCATED: an edge with LFS high while a frame is in progress (R2). -/
def execFrameTruncated (lda : Bool) (s : State) : Answer State := .next (s.linkEdge true lda)

end Sys2Proof.Machine
end

