-- ==== Sys2Proof/Machine/SampleEntry.lean ====
section
/-! DEFINITION. The sample entry port (R9, R10): SAMPLE_ENTRY_BYTE, SAMPLE_ENTRY_GROUP. -/

namespace Sys2Proof.Machine

/-- A write byte slot at SAMPLE_ENTRY (R9, R167). -/
def State.atSampleEntry (s : State) : Bool := s.writing && s.pointed == some (.sampleEntry, 0)

/-- The value of a group, bytes 1 to 3 (Table 9). -/
def groupValue (bytes : List Byte) : BitVec 24 := BitVec.ofNat 24 (beNat (bytes.drop 1))

/-- SAMPLE_ENTRY_BYTE (R9): the first, second or third byte joins the partial group. The pointer stays at the port (R167). -/
def execSampleEntryByte (b : Byte) (s : State) : Answer State :=
  .next (if s.atSampleEntry = true ∧ s.main.group.length < 3 then { s with main := { s.main with group := s.main.group ++ [b] } }
    else s)

/-- SAMPLE_ENTRY_GROUP (R9, R10): the fourth byte completes the group, which is decided, and the partial group is empty again. -/
def execSampleEntryGroup (b : Byte) (s : State) : Answer State :=
  .next (if s.atSampleEntry = true ∧ s.main.group.length = 3 then
      let bytes := s.main.group ++ [b]
      { s with main := { s.main with group := [] } }.intake true (bytes.headD 0).toNat (groupValue bytes) .windowFault
    else s)

end Sys2Proof.Machine
end

