-- ==== Sys2Proof/Machine/Supply.lean ====
section
/-! DEFINITION. The supplies' steps: BACKUP_ENTRY, SETTLING_START, SETTLING_ABORT (R144), BACKUP_RETURN (R151), SUPPLY_LOSS
(R145), COLD_START (R96, R145). -/

namespace Sys2Proof.Machine

/-- BACKUP_ENTRY (R144): in MAIN, VDD falls below VDET with VBAK present. -/
def execBackupEntry (s : State) : Answer State := .next (if s.inMain then s.enterBackup else s)

/-- SETTLING_START (R144): in BACKUP, VDD rises to VDET or above and the settling count begins from 0. -/
def execSettlingStart (s : State) : Answer State :=
  .next (if s.monitor.supply = .backup ∧ s.monitor.vddOk = false then
      { s with monitor := { s.monitor with vddOk := true, settling := 0 } }
    else s)

/-- SETTLING_ABORT (R144): VDD falls below VDET before the count reaches 8192, and the count returns to 0. -/
def execSettlingAbort (s : State) : Answer State :=
  .next (if s.monitor.supply = .backup ∧ s.monitor.vddOk = true then
      { s with monitor := { s.monitor with vddOk := false, settling := 0 } }
    else s)

/-- BACKUP_RETURN (R144, R151): with VDD at or above VDET the settling count reaches 8192. The command stands for the crystal
periods that lead there and moves no other count of theirs (log 3). -/
def execBackupReturn (s : State) : Answer State :=
  .next (if s.monitor.supply = .backup ∧ s.monitor.vddOk = true ∧ s.oscRunning = true then s.returnToMain else s)

/-- SUPPLY_LOSS (R145). -/
def execSupplyLoss (s : State) : Answer State := .next s.losePower

/-- COLD_START (R96, R145): the command itself says that both supplies were absent before (log 10). -/
def execColdStart (vddOk : Bool) (s : State) : Answer State := .next (s.coldStart vddOk)

end Sys2Proof.Machine
end

