-- ==== Sys2Proof/Machine/Time.lean ====
section
/-! DEFINITION. The crystal as commands: SECOND_EVENT (R39), SECOND_MARKER_RISE (R45), OSCILLATOR_STOP and OSCILLATOR_RESTART
(R39). -/

namespace Sys2Proof.Machine

/-- SECOND_EVENT (R39 to R43, R47, R75): while the crystal counts, the phase passes 32767. The command stands for the crystal
periods that lead there and moves no other count of theirs (log 3). -/
def execSecondEvent (s : State) : Answer State := .next (if s.ticking then s.secondEvent else s)

/-- SECOND_MARKER_RISE (R45): in the low half of a second the phase reaches 16384 (log 3). -/
def execSecondMarkerRise (s : State) : Answer State :=
  .next (if s.ticking = true ∧ s.cal.phase < Config.markerRise then { s with cal := { s.cal with phase := Config.markerRise } }
    else s)

/-- OSCILLATOR_STOP (R39). -/
def execOscillatorStop (s : State) : Answer State := .next { s with oscRunning := false }

/-- OSCILLATOR_RESTART (R39): the calendar resumes from the phase at which it stopped. -/
def execOscillatorRestart (s : State) : Answer State := .next { s with oscRunning := true }

end Sys2Proof.Machine
end

