-- ==== Sys2Proof/Machine/WindowSteps.lean ====
section
/-! DEFINITION. The window controller's steps: CSN_FALL, CSN_RISE, ADDRESS_BYTE (R166, R11), FIELD_LATCH_BYTE (R169),
RECORD_DATA_READ (R109, R168), READ_ONLY_WRITE (R170), and the writes of registers: PAGE_WRITE, SLOT_SELECT_WRITE (R171),
STAGED_FIELD_WRITE (R133, R134), CAUSE_CLEAR (R157), MASK_WRITE, MODE_WRITE (R159), QUEUE_POLICY_WRITE, LEVEL_THRESHOLD_WRITE
(R106), SNAP_ITEM_WRITE (R126), REGISTER_WRITE (R50). -/

namespace Sys2Proof.Machine

/-! ### Transactions -/

/-- CSN_FALL (R166): a falling edge of CSN starts a transaction in ADDRESS; in BACKUP only the pin changes. -/
def execCsnFall (s : State) : Answer State :=
  .next (if s.csnHigh then
      let s1 := { s with csnHigh := false }
      if s.inMain then s1.modifyWin fun w => { w with txn := .address } else s1
    else s)

/-- The window controller at the end of a transaction (R166, R169, R49, R109). -/
def Window.endTransaction (w : Window) : Window :=
  { w with txn := .idle, latch := none, capture := none, calImage := none, wordPos := 0, sdo := none }

/-- CSN_RISE (R166): the transaction ends; an incomplete field is discarded (R169), and a partial group is discarded with
WINDOW_FAULT (R11). -/
def execCsnRise (s : State) : Answer State :=
  .next (if s.csnHigh then s
    else
      let s1 := { s with csnHigh := true }
      if s.inMain then
        { s1 with main := { s1.main with group := [], win := s1.main.win.endTransaction } }.setCauseIf
          (!s.main.group.isEmpty) .windowFault
      else s1)

/-- ADDRESS_BYTE (R166): bit 7 sets the direction, bits 6 to 0 load the pointer, and SDO has sent 0 in the slot of a read. -/
def execAddressByte (b : Byte) (s : State) : Answer State :=
  .next (if s.inMain = true ∧ s.main.win.txn = .address then
      s.modifyWin fun w =>
        { w with txn := .data, reading := b.getLsbD 7, pointer := b.extractLsb' 0 7, sdo := if b.getLsbD 7 then some 0 else none }
    else s)

/-! ### Reads -/

/-- RECORD_DATA_READ: one byte slot of a read transaction, at RECORD_DATA (R109 to R111) or at another address (R168; log 5). -/
def execRecordDataRead (s : State) : Answer State :=
  .next (if s.readingSlot then
      let r := s.readByte
      r.2.advance.modifyWin fun w => { w with sdo := some r.1 }
    else s)

/-! ### The field latch and ignored bytes -/

/-- FIELD_LATCH_BYTE (R169): a byte that is not the last of a multi-byte field is gathered into the latch; a byte whose earlier
bytes were not written in the transaction is ignored with WINDOW_FAULT. -/
def execFieldLatchByte (b : Byte) (s : State) : Answer State :=
  .next (match s.pointed with
    | some (r, k) =>
      if s.writing = true ∧ r.access ≠ .readOnly ∧ 1 < r.width then
        match s.latched k with
        | some earlier =>
          if k + 1 < r.width then
            (s.modifyWin fun w => { w with latch := some ⟨s.fieldStart k, earlier ++ [b]⟩ }).advance
          else s
        | none => s.ignoredByte
      else s
    | none => s)

/-- READ_ONLY_WRITE (R170): a write byte to a read-only or unused address is ignored and sets WINDOW_FAULT. -/
def execReadOnlyWrite (_b : Byte) (s : State) : Answer State :=
  .next (match s.pointed with
    | some (r, _) => if s.writing = true ∧ r.access = .readOnly then s.ignoredByte else s
    | none => if s.writing then s.ignoredByte else s)

/-! ### Window registers -/

/-- The PAGE register takes a value, or the write is ignored with WINDOW_FAULT (R171). -/
def State.putPage (s : State) (b : Byte) : State :=
  match pageOf b with
  | some p => s.modifyWin fun w => { w with page := p }
  | none => s.setCause .windowFault

/-- PAGE_WRITE (R171). -/
def execPageWrite (b : Byte) (s : State) : Answer State := .next (s.fieldWrite (· == .page) b fun _ _ s => s.putPage b)

/-- A slot select takes a value, or the write is ignored with WINDOW_FAULT (R171). -/
def State.putSelect (s : State) (r : Reg) (b : Byte) : State :=
  if r = .schedSlot then
    if h : b.toNat < 20 then s.modifyWin fun w => { w with schedSlot := ⟨b.toNat, h⟩ } else s.setCause .windowFault
  else
    if h : b.toNat < 16 then s.modifyWin fun w => { w with specSlot := ⟨b.toNat, h⟩ } else s.setCause .windowFault

/-- SLOT_SELECT_WRITE (R171). -/
def execSlotSelectWrite (b : Byte) (s : State) : Answer State :=
  .next (s.fieldWrite (fun r => r == .schedSlot || r == .specSlot) b fun r _ s => s.putSelect r b)

/-- The registers of the staged set (R134). -/
def Reg.staged : Reg → Bool
  | .length | .channel _ _ | .dayType _ | .defaultTariff | .schedField _ | .specField _ => true
  | _ => false

/-- A channel entry with one field written (Table 48). -/
def ChannelEntry.put (e : ChannelEntry) (f : ChannelField) (bytes : List Byte) : ChannelEntry :=
  match f with
  | .enabled => { e with enabled := bytes.headD 0 }
  | .source => { e with source := bytes.headD 0 }
  | .mode => { e with mode := bytes.headD 0 }
  | .overflow => { e with overflow := bytes.headD 0 }
  | .rounding => { e with rounding := bytes.headD 0 }
  | .offset => { e with offset := BitVec.ofNat 24 (beNat bytes) }
  | .gain => { e with gain := BitVec.ofNat 16 (beNat bytes) }

/-- A schedule slot with one field written (Table 57). -/
def SchedSlot.put (x : SchedSlot) (i : Nat) (b : Byte) : SchedSlot :=
  match i with
  | 0 => { x with used := b }
  | 1 => { x with dayType := b }
  | 2 => { x with hour := b }
  | 3 => { x with minute := b }
  | _ => { x with tariff := b }

/-- A special-day slot with one field written (Table 57). -/
def SpecSlot.put (x : SpecSlot) (i : Nat) (b : Byte) : SpecSlot :=
  match i with
  | 0 => { x with used := b }
  | 1 => { x with month := b }
  | 2 => { x with day := b }
  | 3 => { x with yearPresent := b }
  | 4 => { x with year := b }
  | _ => { x with dayType := b }

/-- A configuration set with one field written, the slot fields through the slot selects (R133, R171). -/
def ConfigSet.put (c : ConfigSet) (w : Window) (r : Reg) (bytes : List Byte) : ConfigSet :=
  match r with
  | .length => { c with lengthCode := bytes.headD 0 }
  | .channel i f => { c with channels := c.channels.set i (c.channels[i].put f bytes) }
  | .dayType i => { c with dayTypes := c.dayTypes.set i (bytes.headD 0) }
  | .defaultTariff => { c with defaultTariff := bytes.headD 0 }
  | .schedField i => { c with schedule := c.schedule.set w.schedSlot (c.schedule[w.schedSlot].put i (bytes.headD 0)) }
  | .specField i => { c with specials := c.specials.set w.specSlot (c.specials[w.specSlot].put i (bytes.headD 0)) }
  | _ => c

/-- A staged field takes the bytes written, or the write is ignored with WINDOW_FAULT under the freeze (R133, R134). -/
def State.putStaged (s : State) (r : Reg) (bytes : List Byte) : State :=
  if s.cfg.commitPending then s.setCause .windowFault
  else { s with cfg := { s.cfg with staged := s.cfg.staged.put s.main.win r bytes } }

/-- STAGED_FIELD_WRITE (R133, R134). -/
def execStagedFieldWrite (b : Byte) (s : State) : Answer State :=
  .next (s.fieldWrite Reg.staged b fun r bytes s => s.putStaged r bytes)

/-- The set of causes that two bytes name; bits above position 11 fall away (R157, R159). -/
def causeSet (bytes : List Byte) : BitVec 12 := BitVec.ofNat 12 (beNat bytes)

/-- CAUSE_CLEAR (R157). -/
def execCauseClear (b : Byte) (s : State) : Answer State :=
  .next (s.fieldWrite (· == .causeClear) b fun _ bytes s =>
    { s with events := { s.events with pending := s.events.pending &&& ~~~ causeSet bytes } })

/-- The pin whose mask or mode a register is. -/
def Reg.pin : Reg → EventPin
  | .mask pin | .mode pin => pin
  | _ => .a

/-- A register that is a mask. -/
def Reg.isMask : Reg → Bool
  | .mask _ => true
  | _ => false

/-- A register that is a mode. -/
def Reg.isMode : Reg → Bool
  | .mode _ => true
  | _ => false

/-- MASK_WRITE (R159). -/
def execMaskWrite (b : Byte) (s : State) : Answer State :=
  .next (s.fieldWrite Reg.isMask b fun r bytes s =>
    { s with events := s.events.withOutput r.pin { s.events.output r.pin with mask := causeSet bytes } })

/-- An output in a new mode (R159, R161): a change away from PULSE ends a pulse. -/
def EventOutput.inMode (o : EventOutput) (m : OutputMode) : EventOutput :=
  { o with mode := m, pulse := if m = .pulse then o.pulse else .idle }

/-- An output's mode takes a value, or the write is ignored with WINDOW_FAULT (R159). -/
def State.putMode (s : State) (pin : EventPin) (b : Byte) : State :=
  match modeOf b with
  | some m => { s with events := s.events.withOutput pin ((s.events.output pin).inMode m) }
  | none => s.setCause .windowFault

/-- MODE_WRITE (R159). -/
def execModeWrite (b : Byte) (s : State) : Answer State := .next (s.fieldWrite Reg.isMode b fun r _ s => s.putMode r.pin b)

/-- QUEUE_POLICY_WRITE (R106). -/
def execQueuePolicyWrite (b : Byte) (s : State) : Answer State :=
  .next (s.fieldWrite (· == .queuePolicy) b fun _ _ s =>
    if b = 0 then { s with queue := { s.queue with overwrite := false } }
    else if b = 1 then { s with queue := { s.queue with overwrite := true } }
    else s.setCause .windowFault)

/-- LEVEL_THRESHOLD_WRITE (R106). -/
def execLevelThresholdWrite (b : Byte) (s : State) : Answer State :=
  .next (s.fieldWrite (· == .levelThreshold) b fun _ _ s => { s with queue := { s.queue with threshold := b } })

/-- SNAP_ITEM takes a channel and a tariff, or the write is ignored with WINDOW_FAULT (R126). -/
def State.putSnapItem (s : State) (channel tariff : Nat) : State :=
  if h : channel < 6 ∧ tariff < 4 then
    { s with main := { s.main with snapItem := (⟨channel, h.1⟩, ⟨tariff, h.2⟩) } }
  else s.setCause .windowFault

/-- SNAP_ITEM_WRITE (R126). -/
def execSnapItemWrite (b : Byte) (s : State) : Answer State :=
  .next (s.fieldWrite (· == .snapItem) b fun _ bytes s => s.putSnapItem (bytes.headD 0).toNat b.toNat)

/-- A register that is a time load field. -/
def Reg.isTimeLoad : Reg → Bool
  | .timeLoad _ => true
  | _ => false

/-- The time load fields with one written (R50). -/
def TimeLoadFields.put (f : TimeLoadFields) (r : Reg) (b : Byte) : TimeLoadFields :=
  match r with
  | .timeLoad 0 => { f with year := b }
  | .timeLoad 1 => { f with month := b }
  | .timeLoad 2 => { f with day := b }
  | .timeLoad 3 => { f with hour := b }
  | .timeLoad 4 => { f with minute := b }
  | .timeLoad _ => { f with second := b }
  | _ => f

/-- REGISTER_WRITE: a time load field (R50, R169). -/
def execRegisterWrite (b : Byte) (s : State) : Answer State :=
  .next (s.fieldWrite Reg.isTimeLoad b fun r _ s =>
    { s with main := { s.main with timeLoad := s.main.timeLoad.put r b } })

end Sys2Proof.Machine
end

