-- ==== Sys2Proof/Machine/Dispatch.lean ====
section
/-! DEFINITION. The meaning of every command: one arm for each row of spec/opcode_table.json, in the table's order. -/

namespace Sys2Proof.Machine

def exec (i : Instr) (s : State) : Host.Outcome State Fault Refusal :=
  match i with
  | .linkFrame lda => Sys2Proof.Machine.execLinkFrame lda s
  | .frameTruncated lda => Sys2Proof.Machine.execFrameTruncated lda s
  | .sampleEntryGroup b => Sys2Proof.Machine.execSampleEntryGroup b s
  | .engineTake => Sys2Proof.Machine.execEngineTake s
  | .accumulation => Sys2Proof.Machine.execAccumulation s
  | .secondEvent => Sys2Proof.Machine.execSecondEvent s
  | .secondMarkerRise => Sys2Proof.Machine.execSecondMarkerRise s
  | .build => Sys2Proof.Machine.execBuild s
  | .credit => Sys2Proof.Machine.execCredit s
  | .store => Sys2Proof.Machine.execStore s
  | .commandHandover => Sys2Proof.Machine.execCommandHandover s
  | .csnFall => Sys2Proof.Machine.execCsnFall s
  | .csnRise => Sys2Proof.Machine.execCsnRise s
  | .recordDataRead => Sys2Proof.Machine.execRecordDataRead s
  | .pageWrite b => Sys2Proof.Machine.execPageWrite b s
  | .slotSelectWrite b => Sys2Proof.Machine.execSlotSelectWrite b s
  | .stagedFieldWrite b => Sys2Proof.Machine.execStagedFieldWrite b s
  | .causeClear b => Sys2Proof.Machine.execCauseClear b s
  | .maskWrite b => Sys2Proof.Machine.execMaskWrite b s
  | .modeWrite b => Sys2Proof.Machine.execModeWrite b s
  | .queuePolicyWrite b => Sys2Proof.Machine.execQueuePolicyWrite b s
  | .levelThresholdWrite b => Sys2Proof.Machine.execLevelThresholdWrite b s
  | .snapItemWrite b => Sys2Proof.Machine.execSnapItemWrite b s
  | .readOnlyWrite b => Sys2Proof.Machine.execReadOnlyWrite b s
  | .registerWrite b => Sys2Proof.Machine.execRegisterWrite b s
  | .timeLoad arg => Sys2Proof.Machine.execTimeLoad arg s
  | .timeTrim arg => Sys2Proof.Machine.execTimeTrim arg s
  | .configCommitAtNext arg => Sys2Proof.Machine.execConfigCommitAtNext arg s
  | .configCommitNow => Sys2Proof.Machine.execConfigCommitNow s
  | .configCancel arg => Sys2Proof.Machine.execConfigCancel arg s
  | .configFetch arg => Sys2Proof.Machine.execConfigFetch arg s
  | .forceClose arg => Sys2Proof.Machine.execForceClose arg s
  | .snapshot arg => Sys2Proof.Machine.execSnapshot arg s
  | .totalsClear arg => Sys2Proof.Machine.execTotalsClear arg s
  | .demandReset arg => Sys2Proof.Machine.execDemandReset arg s
  | .recordOpen arg => Sys2Proof.Machine.execRecordOpen arg s
  | .recordRelease arg => Sys2Proof.Machine.execRecordRelease arg s
  | .queueFlush arg => Sys2Proof.Machine.execQueueFlush arg s
  | .softReset arg => Sys2Proof.Machine.execSoftReset arg s
  | .unknownCommand arg => Sys2Proof.Machine.execUnknownCommand arg s
  | .backupEntry => Sys2Proof.Machine.execBackupEntry s
  | .settlingStart => Sys2Proof.Machine.execSettlingStart s
  | .settlingAbort => Sys2Proof.Machine.execSettlingAbort s
  | .backupReturn => Sys2Proof.Machine.execBackupReturn s
  | .supplyLoss => Sys2Proof.Machine.execSupplyLoss s
  | .coldStart vddOk => Sys2Proof.Machine.execColdStart vddOk s
  | .pulseStart pin => Sys2Proof.Machine.execPulseStart pin s
  | .pulseEnd pin => Sys2Proof.Machine.execPulseEnd pin s
  | .linkBit lfs lda => Sys2Proof.Machine.execLinkBit lfs lda s
  | .addressByte b => Sys2Proof.Machine.execAddressByte b s
  | .sampleEntryByte b => Sys2Proof.Machine.execSampleEntryByte b s
  | .fieldLatchByte b => Sys2Proof.Machine.execFieldLatchByte b s
  | .recordMemoryFault address flips => Sys2Proof.Machine.execRecordMemoryFault address flips s
  | .oscillatorStop => Sys2Proof.Machine.execOscillatorStop s
  | .oscillatorRestart => Sys2Proof.Machine.execOscillatorRestart s

end Sys2Proof.Machine
end

