-- ==== Sys2Proof/Safety.lean ====
section
/-! DEFINITION. What every run of the device keeps: the invariants that the spec states, as predicates on one state. The
statements use them as premises and state that every step keeps them. -/

namespace Sys2Proof.Machine

/-- R73: exactly one bank is OPEN; the other is CLOSING while a close is in progress and FREE otherwise. -/
def State.banksInv (s : State) : Prop :=
  (s.bankA.state = .opened ∧ s.bankB.state = if s.ic.stage = .idle then .free else .closing) ∨
  (s.bankB.state = .opened ∧ s.bankA.state = if s.ic.stage = .idle then .free else .closing)

/-- R42: the calendar holds a real date and time of its range, its day of week agrees with its date, and the phase is below
32768 (R39). -/
def State.calendarInv (s : State) : Prop :=
  s.cal.time.valid = true ∧ s.cal.dayOfWeek = dayOfWeek s.cal.time ∧ s.cal.phase < Config.phasePeriods

/-- R132, R135, R137: the active set passes validation, and so does the staged set while a commit is pending. -/
def State.configInv (s : State) : Prop :=
  s.cfg.active.passes = true ∧ (s.cfg.commitPending = true → s.cfg.staged.passes = true)

/-- R97: the four values of the record queue agree with the lengths of the records held, each 5 to 23 words. -/
def RecordQueue.inv (q : RecordQueue) : Prop :=
  q.count = q.lens.length ∧ q.used = q.lens.sum ∧ (∀ n ∈ q.lens, 5 ≤ n ∧ n ≤ 23) ∧ q.used ≤ Config.memoryWords ∧
  q.head < Config.memoryWords ∧ q.tail = (q.head + q.used) % Config.memoryWords

/-- Table 39: a hold is present exactly while the read status is not NO_RECORD, and then the queue holds a record (R107). -/
def RecordQueue.holdInv (q : RecordQueue) : Prop :=
  (q.hold = true ↔ q.readStatus ≠ .noRecord) ∧ (q.hold = true → q.lens ≠ [])

/-- A record held between BUILD and STORE has at most six channel entries (R98). -/
def State.builtInv (s : State) : Prop := ∀ r, s.ic.built = some r → r.entries.length ≤ 6

/-- R97: the record queue is consistent. -/
def State.queueInv (s : State) : Prop := s.queue.inv ∧ s.queue.holdInv ∧ s.builtInv

/-- The record memory keeps its canonical form. -/
def State.memoryInv (s : State) : Prop := s.queue.mem.wf = true

/-- R13, R17: the sample queue holds at most 32 entries; outside DRAIN every entry in flight carries the OPEN bank's tag; and no
entry with the CLOSING bank's tag stands behind one with the OPEN bank's tag. -/
def State.samplesInv (s : State) : Prop :=
  s.main.samples.length ≤ Config.queueDepth ∧
  (s.ic.stage ≠ .drain → ∀ x ∈ s.main.inFlight, x.tag = s.openTag) ∧
  s.main.inFlight.Pairwise fun x y => x.tag = s.openTag → y.tag = s.openTag

/-- R17 in the words of the rule: no entry in flight is tagged with a FREE bank, and none tagged with the CLOSING bank stands
behind an entry tagged with the OPEN bank. -/
def State.tagsOrdered (s : State) : Prop :=
  (∀ x ∈ s.main.inFlight, (s.bank x.tag).state ≠ .free) ∧
  s.main.inFlight.Pairwise fun x y => (s.bank x.tag).state = .opened → (s.bank y.tag).state ≠ .closing

/-! ### Byte slots -/

/-- A write byte slot at an address: in MAIN, a write transaction in DATA with the pointer there (R166). -/
abbrev State.writeSlot (s : State) (a : BitVec 7) : Prop :=
  s.monitor.supply = .main ∧ s.main.win.txn = .data ∧ s.main.win.reading = false ∧ s.main.win.pointer = a

/-- A read byte slot at an address (R166). -/
abbrev State.readSlot (s : State) (a : BitVec 7) : Prop :=
  s.monitor.supply = .main ∧ s.main.win.txn = .data ∧ s.main.win.reading = true ∧ s.main.win.pointer = a

/-- The slot of COMMAND's second byte, with the code in the field latch (R169, R173). -/
abbrev State.commandSlot (s : State) (code : Byte) : Prop :=
  s.writeSlot 0x05 ∧ s.main.win.latch = some ⟨0x04, [code]⟩

/-- The command slot in which a command of the owner proceeds at once: the command unit IDLE and no close in progress (R174). -/
abbrev State.commandReady (s : State) (code : Byte) : Prop :=
  s.commandSlot code ∧ s.main.cmd.waiting = none ∧ s.ic.stage = .idle

/-- The state once a field's last byte has been taken: the latch empty and the pointer at the next address (R166, R169). -/
def State.slotTaken (s : State) (next : BitVec 7) : State :=
  { s with main := { s.main with win := { s.main.win with latch := none, pointer := next } } }

/-- The state once an ignored byte has been taken: the pointer at the next address and WINDOW_FAULT set (R169, R170). -/
def State.slotIgnored (s : State) (next : BitVec 7) : State :=
  { s with
    main := { s.main with win := { s.main.win with pointer := next } }
    events := s.events.set .main .windowFault }

/-- The state with WINDOW_FAULT set in MAIN. -/
def State.faulted (s : State) : State := { s with events := s.events.set .main .windowFault }

/-- The state once a command has completed in MAIN: the command unit IDLE, CMD_RESULT written, CMD_DONE set (R177). -/
def State.finished (s : State) (code : Byte) (r : CmdResult) : State :=
  { s with main := { s.main with cmd := ⟨none, code, r⟩ }, events := s.events.set .main .cmdDone }

/-! ### Closes -/

/-- The flags that a trigger leaves on the closing bank (R77). -/
def closingFlags (f : IntervalFlags) (k : Trigger) : IntervalFlags where
  short := f.short || k != .boundary
  power := f.power
  timeset := f.timeset || k == .timeLoad
  forced := f.forced || k == .forceClose || k == .commitNow
  config := f.config
  timeInv := f.timeInv

/-- The active set after the apply of an opening (R78, R139). -/
def State.activeAfter (s : State) (k : Trigger) : ConfigSet :=
  if s.cfg.commitPending = true ∨ k = .commitNow then s.cfg.staged else s.cfg.active

/-- A bank as an opening leaves it (R78 to R80), field by field. -/
def State.openedAs (s : State) (b : Bank) (k : Trigger) (t : DateTime) (calValid : Bool) : Prop :=
  let active := s.activeAfter k
  let length := lengthOf active.lengthCode
  b.state = .opened ∧ b.start = t ∧ b.nominal = length ∧ b.endBoundary = endBoundaryOf length t ∧ b.tariff = active.tariffAt t ∧
  b.flags = ⟨k != .boundary || !(t.second == 0 && t.minute % length == 0), s.monitor.supply == .backup, k == .timeLoad, false,
    s.cfg.commitPending || k == .commitNow, !calValid⟩ ∧
  b.covered = 0 ∧ b.dropped = 0 ∧ b.rejected = 0 ∧ b.gaps = 0 ∧ b.copy = active.channels ∧
  ∀ c : Fin 6, b.chans[c] = if active.channels[c].enabled = 1 then some ⟨0, 0, false, false, false⟩ else none

/-- The configuration store and the event unit after the apply of an opening (R139). -/
def State.appliedAt (s u : State) (k : Trigger) : Prop :=
  if s.cfg.commitPending = true ∨ k = .commitNow then
    u.cfg = { s.cfg with active := s.cfg.staged, commitPending := false } ∧
    u.events = s.events.set s.monitor.supply .configApplied
  else u.cfg = s.cfg ∧ u.events = s.events

/-- The parts of the device that no opening changes. -/
def State.sameElsewhere (s u : State) : Prop :=
  u.pending = s.pending ∧ u.freeCount = s.freeCount ∧ u.oscRunning = s.oscRunning ∧ u.csnHigh = s.csnHigh ∧
  u.monitor = s.monitor ∧ u.cal = s.cal ∧ u.queue = s.queue ∧ u.totals = s.totals ∧ u.demand = s.demand

/-- The latest-value table after an opening of the bank with a tag (R25): in MAIN its entries become absent; the rest of the
main domain is unchanged. -/
def State.latestAfter (s u : State) (tag : Tag) : Prop :=
  u.main = { s.main with latest := u.main.latest } ∧
  ∀ c : Fin 6, u.main.latest[c] =
    match s.main.latest[c] with
    | none => none
    | some l => if s.monitor.supply = .main ∧ l.tag = tag then none else some l

/-- The trigger of a close and its opening, as R77, R78, R81 and R82 say it: what `u` is after it. -/
def State.closeBegan (s u : State) (k : Trigger) (t : DateTime) (calValid : Bool) : Prop :=
  let old := s.openTag
  u.bank old = { s.bank old with state := .closing, flags := closingFlags (s.bank old).flags k } ∧
  s.openedAs (u.bank old.other) k t calValid ∧
  u.ic = { s.ic with stage := if ∃ x ∈ s.main.inFlight, x.tag = old then .drain else .build } ∧
  s.appliedAt u k ∧ s.latestAfter u old.other ∧ s.sameElsewhere u

/-- A second event up to its boundary (R39, R43, R75): the calendar one second on with its phase at 0, the OPEN bank's covered
seconds counted in MAIN, and at the century wrap CAL_VALID false with TIME_INVALID. -/
def State.secondCounted (s : State) : State :=
  { s.setBank s.openTag { s.openBank with covered :=
      if s.monitor.supply = .main then BitVec.ofNat 12 (min (s.openBank.covered.toNat + 1) 4095) else s.openBank.covered } with
    cal := ⟨nextSecond s.cal.time, dayOfWeek (nextSecond s.cal.time), 0, s.cal.valid && s.cal.time != DateTime.last⟩
    events := if s.cal.time = DateTime.last then s.events.set s.monitor.supply .timeInvalid else s.events }

/-- A GAP record as R98 and R152 give it, for a first-missed record, a missed-interval count, a sequence number and a lost
count. -/
def Record.reportsGap (r : Record) (f : FirstMissed) (missed sequence : BitVec 16) (lost : BitVec 12) : Prop :=
  r.kind = .gap ∧ r.entries = [] ∧ r.tariff = 0 ∧ r.flags = ⟨false, true, false, false, false, f.timeInv⟩ ∧
  r.stamp = f.stamp ∧ r.nominal = f.nominal ∧ r.missed = missed ∧ r.sequence = sequence ∧ r.lostBefore = lost ∧
  r.covered = 0 ∧ r.dropped = 0 ∧ r.rejected = 0 ∧ r.gaps = 0 ∧ halfSum r.words = 0

/-- A record offered to the record queue (R101 to R105): the queue's answer, with QUEUE_LEVEL where a record that fits raises the
count to the threshold and QUEUE_LOSS where it does not fit. -/
def State.tookOffer (s : State) (r : Record) : State :=
  let q := s.queue
  { s with
    queue := q.offer r.words
    events :=
      if q.used + r.words.length ≤ 2048 then
        if q.threshold ≠ 0 ∧ q.count + 1 = q.threshold.toNat then s.events.set s.monitor.supply .queueLevel else s.events
      else s.events.set s.monitor.supply .queueLoss }

/-- The completion of a close by itself (R87): the CLOSING bank FREE, the close stage IDLE, BOUNDARY set. -/
def State.closeDone (s : State) : State :=
  { s.setBank s.openTag.other { s.bank s.openTag.other with state := .free } with
    ic := { s.ic with stage := .idle, built := none }
    events := s.events.set s.monitor.supply .boundary }

/-- What `u` is once a GAP record that is due has been built and offered (R152); nothing where none is due, or where there is no
first-missed record to report (log 19). -/
def State.gapBuilt (s u : State) : Prop :=
  match s.ic.gapDue, s.ic.firstMissed with
  | true, some f => ∃ g : Record, g.reportsGap f s.ic.missed s.ic.nextSeq s.queue.lost ∧
      u = State.tookOffer { s with ic := { s.ic with
        nextSeq := s.ic.nextSeq + 1, anyBuilt := true, missed := 0, firstMissed := none, gapDue := false } } g
  | _, _ => u = s

/-- The end of a missed interval (R148): what `u` is once the OPEN bank has opened again in place. -/
def State.missEnded (s u : State) (t : DateTime) (calValid : Bool) : Prop :=
  s.openedAs (u.bank s.openTag) .boundary t calValid ∧ u.bank s.openTag.other = s.bank s.openTag.other ∧
  u.ic = { s.ic with
    firstMissed := some (match s.ic.firstMissed with
      | some f => f
      | none => ⟨s.openBank.start.stamp, s.openBank.nominal, s.openBank.flags.timeInv⟩)
    missed := BitVec.ofNat 16 (min (s.ic.missed.toNat + 1) 65535) } ∧
  s.appliedAt u .boundary ∧ s.latestAfter u s.openTag ∧ s.sameElsewhere u

/-- The command row that a command of Table 59 arrives as. -/
def Cmd.row (c : Cmd) (arg : Byte) : Instr :=
  match c with
  | .timeLoad => .timeLoad arg
  | .timeTrim => .timeTrim arg
  | .configCommit => if arg = 1 then .configCommitNow else .configCommitAtNext arg
  | .configCancel => .configCancel arg
  | .configFetch => .configFetch arg
  | .forceClose => .forceClose arg
  | .snapshot => .snapshot arg
  | .totalsClear => .totalsClear arg
  | .demandReset => .demandReset arg
  | .recordOpen => .recordOpen arg
  | .recordRelease => .recordRelease arg
  | .queueFlush => .queueFlush arg
  | .softReset => .softReset arg

/-- The rows in which the last byte of a field of several bytes arrives, byte b being that byte (R169). -/
def Reg.lastByteRows (r : Reg) (b : Byte) : List Instr :=
  match r with
  | .command => [.timeLoad b, .timeTrim b, if b = 1 then .configCommitNow else .configCommitAtNext b, .configCancel b,
      .configFetch b, .forceClose b, .snapshot b, .totalsClear b, .demandReset b, .recordOpen b, .recordRelease b, .queueFlush b,
      .softReset b, .unknownCommand b]
  | .causeClear => [.causeClear b]
  | .mask _ => [.maskWrite b]
  | .snapItem => [.snapItemWrite b]
  | .channel _ .offset | .channel _ .gain => [.stagedFieldWrite b]
  | _ => []

/-! ### Validation -/

/-- The n entries of a table of a configuration set, in ascending index. -/
def tableEntries (table : FaultTable) (n : Nat) : List (FaultTable × Nat) := (List.range n).map fun i => (table, i)

/-- The entries of a configuration set in the order in which validation examines them (R135, R70), each with the table and the
index by which the config fault field names it. -/
def checkOrder : List (FaultTable × Nat) :=
  [tableEntries .length 1, tableEntries .channels 6, tableEntries .dayTypeMap 7, tableEntries .defaultTariff 1,
   tableEntries .schedule 20, tableEntries .specialDays 16].flatten

/-- The conditions on a channel table entry (R135). -/
def ConfigSet.channelMeets (c : ConfigSet) (i : Fin 6) : Prop :=
  let e := c.channels[i]
  e.enabled = 0 ∨ e.enabled = 1 ∧ e.source ≤ 1 ∧ e.mode ≤ 2 ∧ e.overflow ≤ 1 ∧ e.rounding ≤ 1 ∧
    (e.mode = 2 → c.channels[partner i].enabled = 1 ∧ c.channels[partner i].mode ≠ 2)

/-- The conditions on a used schedule entry (R67, R68), the last one against a used entry of lower index (R70). -/
def ConfigSet.scheduleMeets (c : ConfigSet) (i : Fin 20) : Prop :=
  let x := c.schedule[i]
  (x.used = 0 ∨ x.used = 1 ∧ x.dayType ≤ 3 ∧ x.hour ≤ 23 ∧ x.minute ≤ 59 ∧ x.tariff ≤ 3) ∧
  ∀ j : Fin 20, j < i → x.used = 1 → c.schedule[j].used = 1 →
    ¬(c.schedule[j].dayType = x.dayType ∧ c.schedule[j].hour = x.hour ∧ c.schedule[j].minute = x.minute)

/-- The conditions on a used special-day entry (R67, R69), the last one against a used entry of lower index (R70). -/
def ConfigSet.specialMeets (c : ConfigSet) (i : Fin 16) : Prop :=
  let x := c.specials[i]
  (x.used = 0 ∨ x.used = 1 ∧ x.yearPresent ≤ 1 ∧ 1 ≤ x.month ∧ x.month ≤ 12 ∧ 1 ≤ x.day ∧ (x.yearPresent = 1 → x.year ≤ 99) ∧
    x.dayType ≤ 3 ∧ x.day.toNat ≤ monthLength (if x.yearPresent = 1 then x.year.toNat else 0) x.month.toNat) ∧
  ∀ j : Fin 16, j < i → x.used = 1 → c.specials[j].used = 1 →
    ¬(c.specials[j].month = x.month ∧ c.specials[j].day = x.day ∧ c.specials[j].yearPresent = x.yearPresent ∧
      (x.yearPresent = 1 → c.specials[j].year = x.year))

/-- The conditions on the entry that a table and an index name (R135). -/
def ConfigSet.meets (c : ConfigSet) (entry : FaultTable × Nat) : Prop :=
  match entry.1 with
  | .none => True
  | .length => c.lengthCode ≤ 6
  | .channels => ∀ i : Fin 6, i.val = entry.2 → c.channelMeets i
  | .dayTypeMap => ∀ i : Fin 7, i.val = entry.2 → c.dayTypes[i] ≤ 3
  | .defaultTariff => c.defaultTariff ≤ 3
  | .schedule => ∀ i : Fin 20, i.val = entry.2 → c.scheduleMeets i
  | .specialDays => ∀ i : Fin 16, i.val = entry.2 → c.specialMeets i

/-! ### What the registers read as (R172) -/

/-- The number that bytes spell, the first byte the most significant (section 12.2). -/
def bigEndian (bytes : List Byte) : Nat := bytes.foldl (fun n b => 256 * n + b.toNat) 0

/-- A register of a page that begins at an address: its access, and its bytes as a read gives them, each at its own address. -/
def State.shows (s : State) (p : Page) (a : Nat) (access : Access) (bytes : List Byte) : Prop :=
  ∃ r : Reg, r.access = access ∧ r.width = bytes.length ∧ s.regBytes r = bytes ∧
    ∀ k, k < bytes.length → registerAt p (a + k) = some (r, k)

/-- A register that shows one number over its bytes; every number of the spec fits its width. -/
def State.showsNumber (s : State) (p : Page) (a : Nat) (access : Access) (width n : Nat) : Prop :=
  ∃ bytes, s.shows p a access bytes ∧ bytes.length = width ∧ bigEndian bytes = n % 256 ^ width

/-- A register that shows one number in each of its bytes. -/
def State.showsEach (s : State) (p : Page) (a : Nat) (access : Access) (ns : List Nat) : Prop :=
  ∃ bytes, s.shows p a access bytes ∧ bytes.map BitVec.toNat = ns.map (· % 256)

/-- The numbers of a stamp in the order of Table 57. -/
def Stamp.numbers (t : Stamp) : List Nat := [t.year, t.month, t.day, t.hour, t.minute]

/-- The fixed registers that read as one number: address, access, width, number (Table 56, R116, R157). -/
def State.fixedNumbers (s : State) : List (Nat × Access × Nat × Nat) :=
  [(0x00, .readWrite, 1, s.main.win.page.code), (0x04, .writeOnly, 2, 0), (0x06, .readOnly, 2, s.events.pending.toNat),
   (0x08, .writeOnly, 2, 0), (0x0A, .readWrite, 2, s.events.a.mask.toNat), (0x0C, .readWrite, 1, s.events.a.mode.code),
   (0x0D, .readWrite, 2, s.events.b.mask.toNat), (0x0F, .readWrite, 1, s.events.b.mode.code),
   (0x18, .readWrite, 1, s.main.timeLoad.year.toNat), (0x19, .readWrite, 1, s.main.timeLoad.month.toNat),
   (0x1A, .readWrite, 1, s.main.timeLoad.day.toNat), (0x1B, .readWrite, 1, s.main.timeLoad.hour.toNat),
   (0x1C, .readWrite, 1, s.main.timeLoad.minute.toNat), (0x1D, .readWrite, 1, s.main.timeLoad.second.toNat),
   (0x1E, .readWrite, 1, s.cfg.staged.lengthCode.toNat), (0x21, .readOnly, 2, s.queue.count),
   (0x23, .readOnly, 2, s.queue.used), (0x25, .readOnly, 2, s.queue.lost.toNat), (0x27, .readOnly, 1, s.queue.readStatus.code),
   (0x28, .readWrite, 1, if s.queue.overwrite then 1 else 0), (0x29, .readWrite, 1, s.queue.threshold.toNat),
   (0x2A, .readOnly, 1, s.main.samples.length), (0x2B, .writeOnly, 1, 0)]

/-- The fixed registers and what they read as, under every page (Table 56, R168, R49, R136, R177). -/
def State.fixedRegistersShown (s : State) (p : Page) : Prop :=
  (∀ x ∈ s.fixedNumbers, s.showsNumber p x.1 x.2.1 x.2.2.1 x.2.2.2) ∧
  (∃ b, s.shows p 0x01 .readOnly [b] ∧ b.getLsbD 7 = (s.monitor.startCause == .returned) ∧ b.getLsbD 6 = s.cal.valid ∧
    b.getLsbD 5 = s.cfg.commitPending ∧ b.getLsbD 4 = (s.ic.stage != .idle) ∧ b.getLsbD 3 = s.queue.hold ∧
    b.getLsbD 2 = s.main.cmd.waiting.isSome ∧ b.getLsbD 1 = false ∧ b.getLsbD 0 = false) ∧
  s.showsEach p 0x02 .readOnly [s.main.cmd.resultCode.toNat, s.main.cmd.result.code] ∧
  s.showsEach p 0x10 .readOnly [s.cal.time.year, s.cal.time.month, s.cal.time.day, s.cal.time.hour, s.cal.time.minute,
    s.cal.time.second, s.cal.dayOfWeek, if s.cal.valid then 1 else 0] ∧
  s.showsEach p 0x1F .readOnly [s.cfg.fault.1.code, s.cfg.fault.2] ∧
  registerAt p 0x2C = some (.recordData, 0) ∧ Reg.recordData.access = .readOnly ∧
  ∀ a, 0x2D ≤ a → a ≤ 0x3F → registerAt p a = none

/-- The LIVE page (Table 57, R36, R95). -/
def State.livePageShown (s : State) : Prop :=
  let b := s.openBank
  s.showsNumber .live 0x40 .readOnly 1 (match s.openTag with
    | .a => 0
    | .b => 1) ∧
  s.showsNumber .live 0x41 .readOnly 1 b.tariff.val ∧ s.showsEach .live 0x42 .readOnly b.start.stamp.numbers ∧
  s.showsNumber .live 0x47 .readOnly 1 b.start.second ∧ s.showsNumber .live 0x48 .readOnly 2 b.covered.toNat ∧
  (∀ c : Fin 6, ∃ head value, s.shows .live (0x4A + 4 * c) .readOnly (head :: value) ∧
    match s.main.latest[c] with
    | none => head = 0 ∧ value = [0, 0, 0]
    | some l => head.toNat = (if l.tag = .b then 3 else 1) ∧ bigEndian value = l.value.toNat) ∧
  ∀ a, 0x62 ≤ a → a ≤ 0x7F → registerAt .live a = none

/-- The pages of the staged set (Table 57, R133). -/
def State.stagedPagesShown (s : State) : Prop :=
  let c := s.cfg.staged
  (∀ i : Fin 6, let e := c.channels[i]
    let a := 0x40 + 10 * i.val
    s.showsNumber .channels a .readWrite 1 e.enabled.toNat ∧ s.showsNumber .channels (a + 1) .readWrite 1 e.source.toNat ∧
    s.showsNumber .channels (a + 2) .readWrite 1 e.mode.toNat ∧ s.showsNumber .channels (a + 3) .readWrite 1 e.overflow.toNat ∧
    s.showsNumber .channels (a + 4) .readWrite 1 e.rounding.toNat ∧ s.showsNumber .channels (a + 5) .readWrite 3 e.offset.toNat ∧
    s.showsNumber .channels (a + 8) .readWrite 2 e.gain.toNat) ∧
  (∀ a, 0x7C ≤ a → a ≤ 0x7F → registerAt .channels a = none) ∧
  (∀ i : Fin 7, s.showsNumber .schedule (0x40 + i) .readWrite 1 c.dayTypes[i].toNat) ∧
  s.showsNumber .schedule 0x47 .readWrite 1 c.defaultTariff.toNat ∧
  s.showsNumber .schedule 0x48 .readWrite 1 s.main.win.schedSlot ∧
  (let x := c.schedule[s.main.win.schedSlot];
    s.showsNumber .schedule 0x49 .readWrite 1 x.used.toNat ∧ s.showsNumber .schedule 0x4A .readWrite 1 x.dayType.toNat ∧
    s.showsNumber .schedule 0x4B .readWrite 1 x.hour.toNat ∧ s.showsNumber .schedule 0x4C .readWrite 1 x.minute.toNat ∧
    s.showsNumber .schedule 0x4D .readWrite 1 x.tariff.toNat) ∧
  (∀ a, 0x4E ≤ a → a ≤ 0x7F → registerAt .schedule a = none) ∧
  s.showsNumber .specialDays 0x40 .readWrite 1 s.main.win.specSlot ∧
  (let x := c.specials[s.main.win.specSlot];
    s.showsNumber .specialDays 0x41 .readWrite 1 x.used.toNat ∧ s.showsNumber .specialDays 0x42 .readWrite 1 x.month.toNat ∧
    s.showsNumber .specialDays 0x43 .readWrite 1 x.day.toNat ∧ s.showsNumber .specialDays 0x44 .readWrite 1 x.yearPresent.toNat ∧
    s.showsNumber .specialDays 0x45 .readWrite 1 x.year.toNat ∧ s.showsNumber .specialDays 0x46 .readWrite 1 x.dayType.toNat) ∧
  ∀ a, 0x47 ≤ a → a ≤ 0x7F → registerAt .specialDays a = none

/-- The SNAPSHOT page (Table 57, R126): while valid is false the time, the last sequence, its mark and the item view read 0. -/
def State.snapshotPageShown (s : State) : Prop :=
  let m := s.main.image
  let total := m.totals[s.main.snapItem.1][s.main.snapItem.2]
  s.showsNumber .snapshot 0x40 .readOnly 1 (if m.valid then 1 else 0) ∧
  s.showsEach .snapshot 0x41 .readOnly (if m.valid then m.time.stamp.numbers ++ [m.time.second, if m.calValid then 1 else 0]
    else [0, 0, 0, 0, 0, 0, 0]) ∧
  s.showsNumber .snapshot 0x48 .readOnly 2 (if m.valid then m.lastSeq.toNat else 0) ∧
  s.showsNumber .snapshot 0x4A .readOnly 1 (if m.valid = true ∧ m.lastSeqNone = true then 1 else 0) ∧
  s.showsEach .snapshot 0x4B .readWrite [s.main.snapItem.1, s.main.snapItem.2] ∧
  (∃ t f d stamp, s.shows .snapshot 0x4D .readOnly (t ++ f :: (d ++ stamp)) ∧ t.length = 8 ∧ d.length = 6 ∧ stamp.length = 5 ∧
    if m.valid then
      bigEndian t = total.value.toNat ∧ f.getLsbD 2 = total.ovf ∧ f.toNat < 8 ∧
      match m.demand[s.main.snapItem.1][s.main.snapItem.2] with
      | none => f.getLsbD 1 = false ∧ f.getLsbD 0 = false ∧ bigEndian d = 0 ∧ bigEndian stamp = 0
      | some e => f.getLsbD 1 = true ∧ f.getLsbD 0 = e.ovf ∧ bigEndian d = e.value.toNat ∧
          stamp.map BitVec.toNat = e.stamp.numbers.map (· % 256)
    else bigEndian (t ++ f :: (d ++ stamp)) = 0) ∧
  ∀ a, 0x61 ≤ a → a ≤ 0x7F → registerAt .snapshot a = none

/-- The numbers by which registers name pages, modes, results, config fault tables and read statuses (R171, R172, R173). -/
def registerCodes : Prop :=
  [Page.live, .channels, .schedule, .specialDays, .snapshot].map Page.code = [0, 1, 2, 3, 4] ∧
  [OutputMode.off, .level, .pulse, .marker].map OutputMode.code = [0, 1, 2, 3] ∧
  [CmdResult.ok, .pending, .badArg, .busy, .empty, .noHold, .noPending, .crosses, .frozen, .aborted, .unknown].map CmdResult.code =
    [0, 1, 2, 3, 4, 5, 6, 7, 8, 9, 10] ∧
  [FaultTable.none, .length, .channels, .dayTypeMap, .defaultTariff, .schedule, .specialDays].map FaultTable.code =
    [0, 1, 2, 3, 4, 5, 6] ∧
  [ReadStatus.noRecord, .reading, .checkOk, .checkBad, .pastEnd].map ReadStatus.code = [0, 1, 2, 3, 4]

/-! ### Runs -/

/-- n steps of the block, while each answers a next state. -/
def run : Nat → State → Option State
  | 0, s => some s
  | n + 1, s =>
    match step s with
    | .next s' => run n s'
    | _ => none

end Sys2Proof.Machine
end

