-- ==== Sys2Proof/WellFormed.lean ====
section
/-! DEFINITION. Which commands are well formed: the operands that the row's name allows. -/

namespace Sys2Proof

/-- CONFIG_COMMIT with argument 1 is the row CONFIG_COMMIT_NOW (R138), and a memory fault alters at least one bit (R98).
Every other operand may take every value of its type. -/
def Instr.wellFormed : Instr → Bool
  | .configCommitAtNext arg => arg != 1#8
  | .recordMemoryFault _ flips => flips != 0#32
  | _ => true

end Sys2Proof
end

