-- ==== Sys2Proof/Certificates/Slice0/Obligations.lean ====
section
/-! DEFINITION. The statements for the provers, one proposition each, listed in OBLIGATIONS.json. -/

open Sys2Proof Sys2Proof.Machine

/-! ### The block -/

/-- The first step of a block with a command waiting is that command on the state with the rest of its queue (the host's
interface; log 2). -/
def Obligations.StepRunsTheFrontCommand : Prop :=
  ∀ (c : Instr) (rest : List Instr) (s : State), s.pending = c :: rest → step s = exec c { s with pending := rest }

/-- No command faults or is refused: the spec names no stop (INVENTORY.md, Faults). -/
def Obligations.EveryCommandAnswers : Prop := ∀ (c : Instr) (s : State), ∃ t, exec c s = .next t

/-- R39 with log 2: on an empty queue each step is one crystal period. The phase counts every period, nothing else changes, and
the period that would take it past 32767 is the second event. The hypotheses rule out the other two things that a crystal period
can do (settling, R144, and pulses, R161); the model's counter of free values advances with it (log 4). -/
def Obligations.SecondsComeEvery32768Periods : Prop :=
  ∀ (s : State), s.pending = [] → s.oscRunning = true →
    (s.monitor.supply = .main ∨ s.monitor.supply = .backup ∧ s.monitor.vddOk = false) →
    s.events.a.pulse = .idle → s.events.b.pulse = .idle →
    (∀ n, s.cal.phase + n < 32768 → run n s = some { s with cal := { s.cal with phase := s.cal.phase + n } }) ∧
    (s.cal.phase = 32767 →
      ∃ u, exec .secondEvent { s with freeCount := s.freeCount + 1 } = .next u ∧ step s = .next u ∧ u.cal.phase = 0)

/-- R145, R96: a cold start puts every block in its cold-start state, whatever the state before, in the supply state that it finds;
the values of `State.reset` are those of `Obligations.ResetValues`. A loss of both supplies ends in the absent state (log 9). The
pin CSN, the queue of commands and the model's counter are not the device's to lose. The model's choices here: a COLD_START is taken
in every state, a powered one too (log 10); the oscillator runs after it (log 21); the values of the absent state (log 9); of the values of `State.reset`, those that
the spec does not give (log 8, log 9, log 11). -/
def Obligations.ColdStartAndSupplyLoss : Prop :=
  ∀ (s : State),
    (∀ vddOk, exec (.coldStart vddOk) s = .next { State.reset with
      pending := s.pending, freeCount := s.freeCount, csnHigh := s.csnHigh
      monitor := ⟨if vddOk then .main else .backup, vddOk, 0, .cold, !vddOk, none⟩
      bankA := { State.reset.bankA with flags := ⟨false, !vddOk, false, false, false, true⟩ } }) ∧
    exec .supplyLoss s = .next { State.reset with
      pending := s.pending, freeCount := s.freeCount, csnHigh := s.csnHigh
      monitor := ⟨.absent, false, 0, .cold, false, none⟩ }

/-- The values of the cold start with VDD at or above VDET, which is the model's reset (log 11), field by field: R56 the calendar,
R96 the banks and the interval controller, R131, R72 the configuration in both sets and bank A's copy of its channels, R117 the
record queue, R128 totals, demand and the snapshot image, R159 the event unit, R8, R12, R25, R35, R50, R126, R171, R179 the main
domain. The fields whose value is the model's own choice (CSN, the transaction direction, the oscillator, SDO, unwritten memory, the
parts of an invalid image, the read pointer and the running sum without a hold) are not stated. -/
def Obligations.ResetValues : Prop :=
  let s := State.reset
  let channel : ChannelEntry := ⟨0, 0, 0, 0, 1, 0, 32767⟩
  (s.monitor.supply = .main ∧ s.monitor.startCause = .cold ∧ s.monitor.abandonMark = none ∧ s.monitor.settling = 0) ∧
  s.cal = ⟨⟨0, 1, 1, 0, 0, 0⟩, 5, 0, false⟩ ∧
  (s.bankA.state = .opened ∧ s.bankA.start = ⟨0, 1, 1, 0, 0, 0⟩ ∧ s.bankA.nominal = 15 ∧ s.bankA.endBoundary = ⟨0, 1, 1, 0, 15, 0⟩ ∧
    s.bankA.tariff = 0 ∧ s.bankA.flags = ⟨false, false, false, false, false, true⟩ ∧ s.bankA.covered = 0 ∧ s.bankA.dropped = 0 ∧
    s.bankA.rejected = 0 ∧ s.bankA.gaps = 0 ∧ ∀ c : Fin 6, s.bankA.copy[c] = channel ∧ s.bankA.chans[c] = none) ∧
  (s.bankB.state = .free ∧ s.bankB.start = ⟨0, 0, 0, 0, 0, 0⟩ ∧ s.bankB.nominal = 0 ∧ s.bankB.endBoundary = ⟨0, 0, 0, 0, 0, 0⟩ ∧
    s.bankB.tariff = 0 ∧ s.bankB.flags = ⟨false, false, false, false, false, false⟩ ∧ s.bankB.covered = 0 ∧ s.bankB.dropped = 0 ∧
    s.bankB.rejected = 0 ∧ s.bankB.gaps = 0 ∧ ∀ c : Fin 6, s.bankB.copy[c] = ⟨0, 0, 0, 0, 0, 0, 0⟩ ∧ s.bankB.chans[c] = none) ∧
  s.ic = ⟨.idle, none, none, 0, false, .noneTaken, 0, none, false⟩ ∧
  (s.cfg.commitPending = false ∧ s.cfg.fault = (.none, 0) ∧ ∀ set ∈ [s.cfg.staged, s.cfg.active],
    set.lengthCode = 4 ∧ set.defaultTariff = 0 ∧ (∀ c : Fin 6, set.channels[c] = channel) ∧ (∀ d : Fin 7, set.dayTypes[d] = 0) ∧
    (∀ i : Fin 20, set.schedule[i] = ⟨0, 0, 0, 0, 0⟩) ∧ ∀ i : Fin 16, set.specials[i] = ⟨0, 0, 0, 0, 0, 0⟩) ∧
  (s.queue.count = 0 ∧ s.queue.used = 0 ∧ s.queue.head = 0 ∧ s.queue.tail = 0 ∧ s.queue.lens = [] ∧ s.queue.lost = 0 ∧
    s.queue.hold = false ∧ s.queue.readStatus = .noRecord ∧ s.queue.overwrite = false ∧ s.queue.threshold = 0) ∧
  (∀ (c : Fin 6) (t : Fin 4), s.totals[c][t] = ⟨0, false⟩ ∧ s.demand[c][t] = none) ∧
  s.events = ⟨Cause.timeInvalid.bit, ⟨0, .marker, .idle, false⟩, ⟨0, .off, .idle, false⟩⟩ ∧
  s.main.link = ⟨.hunt, 0, true⟩ ∧ s.main.group = [] ∧ s.main.samples = [] ∧ s.main.engine = none ∧
  (∀ c : Fin 6, s.main.latest[c] = none) ∧ s.main.image.valid = false ∧ s.main.snapItem = (0, 0) ∧
  s.main.timeLoad = ⟨0, 0, 0, 0, 0, 0⟩ ∧ s.main.cmd = ⟨none, 0, .ok⟩ ∧
  s.main.win.txn = .idle ∧ s.main.win.pointer = 0 ∧ s.main.win.page = .live ∧ s.main.win.schedSlot = 0 ∧ s.main.win.specSlot = 0 ∧
  s.main.win.latch = none ∧ s.main.win.capture = none ∧ s.main.win.calImage = none

/-- R144, R166: outside MAIN the main domain is stopped, so every command of the link, the sample entry, the engine, the window and the
command unit leaves the state as it is (log 1 for a step offered where it cannot take place), but that CSN_FALL and CSN_RISE move
the pin CSN itself, which the host drives. -/
def Obligations.MainDomainIsStoppedOutsideMain : Prop :=
  ∀ (s : State), s.monitor.supply ≠ .main →
    (∀ b lda, exec (.linkBit b lda) s = .next s) ∧ (∀ lda, exec (.linkFrame lda) s = .next s) ∧
    (∀ lda, exec (.frameTruncated lda) s = .next s) ∧ exec .engineTake s = .next s ∧ exec .accumulation s = .next s ∧
    exec .recordDataRead s = .next s ∧ exec .configCommitNow s = .next s ∧ exec .commandHandover s = .next s ∧
    exec .csnFall s = .next { s with csnHigh := false } ∧ exec .csnRise s = .next { s with csnHigh := true } ∧
    ∀ b, ∀ c ∈ [Instr.sampleEntryByte b, .sampleEntryGroup b, .addressByte b, .pageWrite b, .slotSelectWrite b,
      .stagedFieldWrite b, .causeClear b, .maskWrite b, .modeWrite b, .queuePolicyWrite b, .levelThresholdWrite b, .snapItemWrite b,
      .readOnlyWrite b, .registerWrite b, .fieldLatchByte b, .timeLoad b, .timeTrim b, .configCommitAtNext b, .configCancel b,
      .configFetch b, .forceClose b, .snapshot b, .totalsClear b, .demandReset b, .recordOpen b, .recordRelease b, .queueFlush b,
      .softReset b, .unknownCommand b], exec c s = .next s

/-! ### Sample intake -/

/-- R1, first, third and fourth rows: the bits of a frame, bit 31 first, are gathered one at a time; a bit in HUNT with LFS low
is ignored. Nothing but the shift state changes. -/
def Obligations.LinkBitsAreGathered : Prop :=
  ∀ (s : State) (w : Word), s.monitor.supply = .main →
    (s.main.link.shift = .hunt →
      exec (.linkBit true (w.getLsbD 31)) s =
        .next { s with main := { s.main with link := { s.main.link with shift := .shifting 1 (w >>> 31) } } } ∧
      ∀ lda, exec (.linkBit false lda) s = .next s) ∧
    ∀ n, 1 ≤ n → n ≤ 30 → s.main.link.shift = .shifting n (w >>> (32 - n)) →
      exec (.linkBit false (w.getLsbD (31 - n))) s =
        .next { s with main := { s.main with link := { s.main.link with shift := .shifting (n + 1) (w >>> (31 - n)) } } }

/-- R2, R3: a truncated frame, and a complete frame with an odd number of ones, are one rejection each in the OPEN bank, with
LINK_ERROR; the expected sequence and the resynchronisation state stay. A truncation begins the new frame, a bad parity leaves
HUNT. -/
def Obligations.TruncatedAndBadParityFramesAreRejected : Prop :=
  ∀ (s : State), s.monitor.supply = .main →
    let rejected := { s.openBank with rejected := BitVec.ofNat 8 (min (s.openBank.rejected.toNat + 1) 255) }
    (∀ (n : Nat) (bits : Word) (lda : Bool), s.main.link.shift = .shifting n bits →
      exec (.frameTruncated lda) s = .next { s.setBank s.openTag rejected with
        events := s.events.set .main .linkError
        main := { s.main with link := { s.main.link with shift := .shifting 1 (if lda then 1 else 0) } } }) ∧
    ∀ w : Word, s.main.link.shift = .shifting 31 (w >>> 1) → ((List.range 32).countP fun i => w.getLsbD i) % 2 = 1 →
      exec (.linkFrame (w.getLsbD 0)) s = .next { s.setBank s.openTag rejected with
        events := s.events.set .main .linkError
        main := { s.main with link := { s.main.link with shift := .hunt } } }

/-- R4, R5, R6, R13: a complete frame with even parity, of a channel that is enabled with source LINK, at a queue with room. The gap
g (0 while resynchronisation is PENDING) goes to the OPEN bank with LINK_ERROR, the expected number becomes r + 1,
resynchronisation CLEAR, and the sample stands at the tail with the OPEN bank's tag. -/
def Obligations.GoodFrameArrives : Prop :=
  ∀ (s : State) (w : Word) (c : Fin 6), s.monitor.supply = .main → s.main.link.shift = .shifting 31 (w >>> 1) →
    ((List.range 32).countP fun i => w.getLsbD i) % 2 = 0 → w.toNat / 2 ^ 28 = c.val →
    s.cfg.active.channels[c].enabled = 1 → s.cfg.active.channels[c].source = 0 → s.main.samples.length < 32 →
    let r : BitVec 3 := w.extractLsb' 1 3
    let g := if s.main.link.resyncPending then 0 else (r - s.main.link.expected).toNat
    exec (.linkFrame (w.getLsbD 0)) s = .next { s.setBank s.openTag
        { s.openBank with gaps := BitVec.ofNat 8 (min (s.openBank.gaps.toNat + g) 255) } with
      events := if g = 0 then s.events else s.events.set .main .linkError
      main := { s.main with
        link := ⟨.hunt, r + 1, false⟩
        samples := s.main.samples ++ [⟨c, w.extractLsb' 4 24, s.openTag⟩] } }

/-- R6: a frame that passed the sequence check is rejected when its tag is above 5 or names a channel that is not enabled or has
source HOST; it has still resynchronised (R5) and still counted its gap (R4). -/
def Obligations.FrameOfWrongChannelIsRejected : Prop :=
  ∀ (s : State) (w : Word), s.monitor.supply = .main → s.main.link.shift = .shifting 31 (w >>> 1) →
    ((List.range 32).countP fun i => w.getLsbD i) % 2 = 0 →
    (∀ c : Fin 6, w.toNat / 2 ^ 28 = c.val →
      s.cfg.active.channels[c].enabled ≠ 1 ∨ s.cfg.active.channels[c].source = 1) →
    let r : BitVec 3 := w.extractLsb' 1 3
    let g := if s.main.link.resyncPending then 0 else (r - s.main.link.expected).toNat
    exec (.linkFrame (w.getLsbD 0)) s = .next { s.setBank s.openTag
        { s.openBank with
          gaps := BitVec.ofNat 8 (min (s.openBank.gaps.toNat + g) 255)
          rejected := BitVec.ofNat 8 (min (s.openBank.rejected.toNat + 1) 255) } with
      events := s.events.set .main .linkError
      main := { s.main with link := ⟨.hunt, r + 1, false⟩ } }

/-- R9, R10, R13: bytes at SAMPLE_ENTRY are gathered; the fourth decides the group. A group for an enabled HOST channel arrives at a
queue with room; any other group is one rejection with WINDOW_FAULT. The pointer stays at the port (R167). -/
def Obligations.SampleEntryGroups : Prop :=
  ∀ (s : State), s.writeSlot 0x2B →
    (∀ b, s.main.group.length < 3 →
      exec (.sampleEntryByte b) s = .next { s with main := { s.main with group := s.main.group ++ [b] } }) ∧
    ∀ b0 b1 b2 b3, s.main.group = [b0, b1, b2] →
      (∀ c : Fin 6, b0.toNat = c.val → s.cfg.active.channels[c].enabled = 1 → s.cfg.active.channels[c].source = 1 →
        s.main.samples.length < 32 →
        exec (.sampleEntryGroup b3) s = .next { s with main := { s.main with
          group := [], samples := s.main.samples ++ [⟨c, b1 ++ b2 ++ b3, s.openTag⟩] } }) ∧
      ((∀ c : Fin 6, b0.toNat = c.val → s.cfg.active.channels[c].enabled ≠ 1 ∨ s.cfg.active.channels[c].source ≠ 1) →
        exec (.sampleEntryGroup b3) s = .next { s.setBank s.openTag
            { s.openBank with rejected := BitVec.ofNat 8 (min (s.openBank.rejected.toNat + 1) 255) } with
          events := s.events.set .main .windowFault
          main := { s.main with group := [] } })

/-- R14: an arrival at a queue of 32 entries is dropped and counted in the OPEN bank, with SAMPLE_DROP; the queue keeps its
entries. The link's sequence state has advanced, so the dropped frame leaves no gap (R4); a frame that counts a gap of its own counts
it in the OPEN bank with LINK_ERROR as well as the drop. -/
def Obligations.ArrivalAtFullQueueIsDropped : Prop :=
  ∀ (s : State) (c : Fin 6), s.monitor.supply = .main → s.cfg.active.channels[c].enabled = 1 → s.main.samples.length = 32 →
    let dropped := { s.openBank with dropped := BitVec.ofNat 12 (min (s.openBank.dropped.toNat + 1) 4095) }
    (∀ w : Word, s.main.link.shift = .shifting 31 (w >>> 1) → ((List.range 32).countP fun i => w.getLsbD i) % 2 = 0 →
      w.toNat / 2 ^ 28 = c.val → s.cfg.active.channels[c].source = 0 →
      (s.main.link.resyncPending = true ∨ w.extractLsb' 1 3 = s.main.link.expected) →
      exec (.linkFrame (w.getLsbD 0)) s = .next { s.setBank s.openTag dropped with
        events := s.events.set .main .sampleDrop
        main := { s.main with link := ⟨.hunt, w.extractLsb' 1 3 + 1, false⟩ } }) ∧
    (∀ w : Word, s.main.link.shift = .shifting 31 (w >>> 1) → ((List.range 32).countP fun i => w.getLsbD i) % 2 = 0 →
      w.toNat / 2 ^ 28 = c.val → s.cfg.active.channels[c].source = 0 →
      s.main.link.resyncPending = false → w.extractLsb' 1 3 ≠ s.main.link.expected →
      let g := (w.extractLsb' 1 3 - s.main.link.expected).toNat
      exec (.linkFrame (w.getLsbD 0)) s = .next { s.setBank s.openTag
          { dropped with gaps := BitVec.ofNat 8 (min (s.openBank.gaps.toNat + g) 255) } with
        events := (s.events.set .main .linkError).set .main .sampleDrop
        main := { s.main with link := ⟨.hunt, w.extractLsb' 1 3 + 1, false⟩ } }) ∧
    ∀ b0 b1 b2 b3 : Byte, s.writeSlot 0x2B → s.main.group = [b0, b1, b2] → b0.toNat = c.val →
      s.cfg.active.channels[c].source = 1 →
      exec (.sampleEntryGroup b3) s = .next { s.setBank s.openTag dropped with
        events := s.events.set .main .sampleDrop
        main := { s.main with group := [] } }

/-! ### Scaling and accumulation -/

/-- R15, R18: the IDLE engine takes the oldest entry. That ENGINE_TAKE with an engine that holds an entry, or with an empty queue,
leaves everything is the model's choice (log 1). -/
def Obligations.EngineTakesTheOldestEntry : Prop :=
  ∀ (s : State), s.monitor.supply = .main →
    (∀ x rest, s.main.engine = none → s.main.samples = x :: rest →
      exec .engineTake s = .next { s with main := { s.main with engine := some x, samples := rest } }) ∧
    (s.main.engine.isSome = true ∨ s.main.samples = [] → exec .engineTake s = .next s)

/-- R19, R18, R24, R28, R34, R37, R38, R82: one accumulation. The tagged bank's copy of the channel's entry governs it; the latest
value is updated in every mode; the tagged bank's per-channel state alone changes; the engine takes the next entry at once; and a
DRAIN ends when no entry of the closing bank is left. -/
def Obligations.AccumulationIsOneEvent : Prop :=
  ∀ (s : State) (x : Sample) (c : ChanState), s.monitor.supply = .main → s.main.engine = some x →
    (s.bank x.tag).chans[x.channel] = some c →
    let e := (s.bank x.tag).copy[x.channel]
    let w : Option Int := match s.main.latest[partner x.channel] with
      | some l => if l.tag = x.tag then some l.value.toInt else none
      | none => none
    let c' := c.add (e.overflow == 1) (e.saturates x.value) (e.increment (e.scaled x.value) w)
    ∃ t, exec .accumulation s = .next t ∧
      t.bank x.tag = { s.bank x.tag with chans := (s.bank x.tag).chans.set x.channel (some c') } ∧
      t.bank x.tag.other = s.bank x.tag.other ∧
      t.main = { s.main with
        latest := s.main.latest.set x.channel (some ⟨BitVec.ofInt 24 (e.scaled x.value), x.tag⟩)
        engine := s.main.samples.head?, samples := s.main.samples.tail } ∧
      t.events = (if (c'.inSat = true ∧ c.inSat = false) ∨ (c'.accOvf = true ∧ c.accOvf = false) then
        s.events.set .main .accOvf else s.events) ∧
      t.ic = { s.ic with stage :=
        if s.ic.stage = .drain ∧ ∀ y ∈ s.main.samples, y.tag = s.openTag then .build else s.ic.stage } ∧
      t.cfg = s.cfg ∧ s.sameElsewhere t

/-- R21, R22, R23: the scaled value is the rounded quotient of d × g by 2^15, except for the pair of −2^23 and −2^15; it always lies
in the fraction range; and IN_SAT is caused exactly by the clamp or by that pair. -/
def Obligations.ScaledValueIsTheRoundedQuotient : Prop :=
  ∀ (e : ChannelEntry) (sample : BitVec 24),
    let diff := sample.toInt - e.offset.toInt
    let d := if diff < -8388608 then -8388608 else if 8388607 < diff then 8388607 else diff
    let v := e.scaled sample
    v ≤ 8388607 ∧ -8388608 ≤ v ∧
    (if d = -8388608 ∧ e.gain.toInt = -32768 then v = 8388607
     else if e.rounding = 1 then 32768 * v ≤ d * e.gain.toInt + 16384 ∧ d * e.gain.toInt + 16384 < 32768 * (v + 1)
     else 32768 * v ≤ d * e.gain.toInt ∧ d * e.gain.toInt < 32768 * (v + 1)) ∧
    (e.saturates sample = true ↔ diff < -8388608 ∨ 8388607 < diff ∨ d = -8388608 ∧ e.gain.toInt = -32768)

/-- R26, R27, R29, R30: the increment of each mode for fraction values v and w, its rounding and its range; a PRODUCT sample without
a fresh partner value has none. -/
def Obligations.IncrementsOfTheModes : Prop :=
  ∀ (e : ChannelEntry) (v w : Int), -8388608 ≤ v → v ≤ 8388607 → -8388608 ≤ w → w ≤ 8388607 →
    let half : Int := if e.rounding = 1 then 4194304 else 0
    (e.mode = 0 → e.increment v (some w) = some v ∧ e.increment v none = some v) ∧
    (e.mode = 1 → ∃ i, e.increment v (some w) = some i ∧ e.increment v none = some i ∧
      8388608 * i ≤ v * v + half ∧ v * v + half < 8388608 * (i + 1) ∧ 0 ≤ i ∧ i ≤ 8388608 ∧ (i = 8388608 ↔ v = -8388608)) ∧
    (e.mode = 2 → e.increment v none = none ∧ ∃ i, e.increment v (some w) = some i ∧
      8388608 * i ≤ v * w + half ∧ v * w + half < 8388608 * (i + 1) ∧ -8388607 ≤ i ∧ i ≤ 8388608 ∧
      (i = 8388608 ↔ v = -8388608 ∧ w = -8388608))

/-- R30, R31, R32, R33, R34: what an accumulation of an increment of at most 2^23 in magnitude does to a per-channel state under
SATURATE and under WRAP, and what an unpaired sample does. -/
def Obligations.AccumulatorPolicies : Prop :=
  ∀ (c : ChanState) (saturated : Bool) (i : Int), -8388608 ≤ i → i ≤ 8388608 →
    let sum := c.acc.toInt + i
    let top : Int := 140737488355327
    let bottom : Int := -140737488355328
    (∀ wraps, let c' := c.add wraps saturated (some i)
      c'.acc.toInt = (if top < sum then (if wraps then sum - 281474976710656 else top)
        else if sum < bottom then (if wraps then sum + 281474976710656 else bottom) else sum) ∧
      c'.count.toNat = min (c.count.toNat + 1) 65535 ∧ c'.accOvf = (c.accOvf || decide (sum < bottom ∨ top < sum)) ∧
      c'.inSat = (c.inSat || saturated) ∧ c'.unpaired = c.unpaired) ∧
    ∀ wraps, c.add wraps saturated none = { c with unpaired := true, inSat := c.inSat || saturated }

/-! ### Calendar and boundaries -/

/-- R40, R41, R42, R43: the next second of a real time is a real time one second later, its weekday the next one exactly when the
date changes; the last second of 2099 is followed by 2000-01-01 00:00:00, a Saturday. -/
def Obligations.TimeAdvancesByOneSecond : Prop :=
  ∀ t : DateTime, t.valid = true →
    (nextSecond t).valid = true ∧
    (t ≠ ⟨99, 12, 31, 23, 59, 59⟩ → (nextSecond t).seconds = t.seconds + 1 ∧
      dayOfWeek (nextSecond t) =
        if t.hour = 23 ∧ t.minute = 59 ∧ t.second = 59 then (dayOfWeek t + 1) % 7 else dayOfWeek t) ∧
    (t = ⟨99, 12, 31, 23, 59, 59⟩ → nextSecond t = ⟨0, 1, 1, 0, 0, 0⟩ ∧ dayOfWeek (nextSecond t) = 5)

/-- R46, R48: for each interval length of Table 48 the end boundary of an interval is the first aligned instant strictly after its
opening time, where 2000-01-01 00:00:00 stands for the instant after 2099. -/
def Obligations.EndBoundaryIsTheNextAlignedInstant : Prop :=
  ∀ (t : DateTime) (length : Nat), t.valid = true → length ∈ [1, 2, 5, 10, 15, 30, 60] →
    let e := endBoundaryOf length t
    e.valid = true ∧ e.second = 0 ∧ e.minute % length = 0 ∧ t.seconds < endSeconds e ∧
    ∀ u : DateTime, u.valid = true → u.second = 0 → u.minute % length = 0 → t.seconds < u.seconds → endSeconds e ≤ u.seconds

/-- R39, R43, R47, R75, R57: a second event that is no boundary. The time advances, the phase returns to 0, and the OPEN bank counts
the second in MAIN alone. With the oscillator stopped no second event occurs. That SECOND_EVENT is taken at every phase, not only
where the phase passes 32767 (R39), and that it moves neither pulses nor the settling count, is the model's choice (log 3). -/
def Obligations.SecondEventCountsASecond : Prop :=
  ∀ (s : State),
    (s.oscRunning = true → s.monitor.supply ≠ .absent → nextSecond s.cal.time ≠ s.openBank.endBoundary →
      exec .secondEvent s = .next s.secondCounted) ∧
    (s.oscRunning = false → exec .secondEvent s = .next s)

/-- R47, R76, R93, R88, R147: a second event that is a boundary. With no close in progress, in MAIN or as the first boundary in
BACKUP, it closes the interval that counted this second and opens the next one at the boundary instant; during a close the interval
controller holds it. SECOND_EVENT is taken at every phase
and moves neither pulses nor the settling count (the model's choice, log 3). -/
def Obligations.BoundaryClosesOrIsDeferred : Prop :=
  ∀ (s : State), s.oscRunning = true → s.monitor.supply = .main ∨ s.monitor.supply = .backup →
    nextSecond s.cal.time = s.openBank.endBoundary →
    let c := s.secondCounted
    let after : BackupBoundary := if s.monitor.supply = .backup then .taken else s.ic.backupBoundary
    (s.ic.stage = .idle → (s.monitor.supply = .main ∨ s.ic.backupBoundary = .noneTaken) →
      ∃ u, exec .secondEvent s = .next u ∧
        State.closeBegan { c with ic := { s.ic with backupBoundary := after } } u .boundary c.cal.time c.cal.valid) ∧
    (s.ic.stage ≠ .idle →
      exec .secondEvent s = .next { c with ic := { s.ic with
        deferred := some ⟨c.cal.time, c.cal.valid, s.monitor.supply, s.ic.backupBoundary⟩
        backupBoundary := after } })

/-- R148, R149: in BACKUP a boundary after the first one ends a missed interval: the first-missed record is taken once, the count
goes up, and the OPEN bank opens again in place; no close is triggered. SECOND_EVENT is taken at every phase
and moves neither pulses nor the settling count (the model's choice, log 3). -/
def Obligations.LaterBackupBoundaryIsMissed : Prop :=
  ∀ (s : State), s.oscRunning = true → s.monitor.supply = .backup → s.ic.backupBoundary = .taken → s.ic.stage = .idle →
    nextSecond s.cal.time = s.openBank.endBoundary →
    let c := s.secondCounted
    ∃ u, exec .secondEvent s = .next u ∧ c.openedAs (u.bank s.openTag) .boundary c.cal.time c.cal.valid ∧
      u.bank s.openTag.other = s.bank s.openTag.other ∧
      u.ic = { s.ic with
        firstMissed := some (match s.ic.firstMissed with
          | some f => f
          | none => ⟨s.openBank.start.stamp, s.openBank.nominal, s.openBank.flags.timeInv⟩)
        missed := BitVec.ofNat 16 (min (s.ic.missed.toNat + 1) 65535) } ∧
      c.appliedAt u .boundary ∧ u.main = s.main ∧ c.sameElsewhere u

/-- R45, R39: the second marker is low in the first half of a second and high in the second half; its rise is the phase 16384. The
oscillator's stop and restart leave the phase, and while it stands neither the marker nor an idle step moves anything. That the row
SECOND_MARKER_RISE stands for the periods before it and moves no other count of theirs is the model's choice (log 3), as is its offer in the high half (log 1). That the step on the
empty queue is a crystal period (log 2), and that without the oscillator the pulses under way and the settling count stand too (log
20), are the model's choices. -/
def Obligations.MarkerAndOscillator : Prop :=
  ∀ (s : State),
    (s.oscRunning = true → s.monitor.supply ≠ .absent → s.cal.phase < 16384 → s.cal.markerHigh = false ∧
      ∃ t, exec .secondMarkerRise s = .next t ∧ t = { s with cal := { s.cal with phase := 16384 } } ∧ t.cal.markerHigh = true) ∧
    (s.cal.markerHigh = true → exec .secondMarkerRise s = .next s) ∧
    exec .oscillatorStop s = .next { s with oscRunning := false } ∧
    exec .oscillatorRestart s = .next { s with oscRunning := true } ∧
    (s.oscRunning = false → exec .secondMarkerRise s = .next s ∧ (s.pending = [] → step s = .next s))

/-! ### Commands -/

/-- R50, R51, R52: TIME_LOAD with no close in progress. Six fields that name a real time set the calendar and close the interval,
opening the next one at the loaded time with its second; any other six complete BAD_ARG and change nothing else. -/
def Obligations.TimeLoadSetsTheCalendar : Prop :=
  ∀ (s : State) (arg : Byte), s.commandReady 1 →
    let f := s.main.timeLoad
    let t : DateTime := ⟨f.year.toNat, f.month.toNat, f.day.toNat, f.hour.toNat, f.minute.toNat, f.second.toNat⟩
    let real := t.year ≤ 99 ∧ 1 ≤ t.month ∧ t.month ≤ 12 ∧ 1 ≤ t.day ∧ t.day ≤ monthLength t.year t.month ∧ t.hour ≤ 23 ∧
      t.minute ≤ 59 ∧ t.second ≤ 59
    (real → ∃ u, exec (.timeLoad arg) s = .next (u.finished 1 .ok) ∧
      State.closeBegan { s.slotTaken 6 with cal := ⟨t, dayOfWeek t, 0, true⟩ } u .timeLoad t true) ∧
    (¬ real → exec (.timeLoad arg) s = .next ((s.slotTaken 6).finished 1 .badArg))

/-- R53, R54, R55: TIME_TRIM with no close in progress. An argument of 0 or outside −30 to 30 completes BAD_ARG; a trimmed time at or
after the end boundary, or before the opening time, completes CROSSES; any other moves the time by the argument and touches neither
the phase, CAL_VALID nor the banks. -/
def Obligations.TimeTrimMovesTheTime : Prop :=
  ∀ (s : State) (arg : Byte), s.commandReady 2 → s.cal.time.valid = true → s.openBank.endBoundary.valid = true →
    let n := arg.toInt
    let moved : Int := s.cal.time.seconds + n
    let crosses := 0 < n ∧ (endSeconds s.openBank.endBoundary : Int) ≤ moved ∨ n < 0 ∧ moved < s.openBank.start.seconds
    (n = 0 ∨ n < -30 ∨ 30 < n → exec (.timeTrim arg) s = .next ((s.slotTaken 6).finished 2 .badArg)) ∧
    (n ≠ 0 → -30 ≤ n → n ≤ 30 → crosses → exec (.timeTrim arg) s = .next ((s.slotTaken 6).finished 2 .crosses)) ∧
    (n ≠ 0 → -30 ≤ n → n ≤ 30 → ¬ crosses → ∃ t : DateTime, t.valid = true ∧ (t.seconds : Int) = moved ∧
      exec (.timeTrim arg) s = .next (State.finished
        { s.slotTaken 6 with cal := { s.cal with time := t, dayOfWeek := dayOfWeek t } } 2 .ok))

/-- R123, R124, R125: TOTALS_CLEAR, DEMAND_RESET and SNAPSHOT with no close in progress. Each acts on its own table in one event;
the snapshot copies both tables, the time and the last sequence, none where no record was built (then its two bytes are the free
value of log 6, of which nothing is said). -/
def Obligations.TableCommands : Prop :=
  ∀ (s : State) (arg : Byte),
    (s.commandReady 8 → ∃ z : TotalsTable, (∀ (c : Fin 6) (t : Fin 4), z[c][t] = ⟨0, false⟩) ∧
      exec (.totalsClear arg) s = .next (State.finished { s.slotTaken 6 with totals := z } 8 .ok)) ∧
    (s.commandReady 9 → ∃ z : DemandTable, (∀ (c : Fin 6) (t : Fin 4), z[c][t] = none) ∧
      exec (.demandReset arg) s = .next (State.finished { s.slotTaken 6 with demand := z } 9 .ok)) ∧
    (s.commandReady 7 → ∃ m : SnapshotImage, m.valid = true ∧ m.time = s.cal.time ∧ m.calValid = s.cal.valid ∧
      m.totals = s.totals ∧ m.demand = s.demand ∧ m.lastSeqNone = !s.ic.anyBuilt ∧
      (s.ic.anyBuilt = true → m.lastSeq = s.ic.nextSeq - 1) ∧
      exec (.snapshot arg) s = .next (State.finished
        { s.slotTaken 6 with main := { (s.slotTaken 6).main with image := m }, freeCount := s.freeCount + 1 } 7 .ok))

/-- R136, R137: CONFIG_COMMIT with an argument other than NOW, in the command unit's IDLE state and during a close as at any other
time: AT_NEXT validates a staged set that is not frozen and freezes it; 2 to 255 complete BAD_ARG without validating. -/
def Obligations.CommitAtNextValidates : Prop :=
  ∀ (s : State) (arg : Byte), s.commandSlot 3 → s.main.cmd.waiting = none →
    (arg = 0 → s.cfg.commitPending = true →
      exec (.configCommitAtNext arg) s = .next ((s.slotTaken 6).finished 3 .pending)) ∧
    (arg = 0 → s.cfg.commitPending = false → s.cfg.staged.firstFault = none →
      exec (.configCommitAtNext arg) s = .next (State.finished
        { s.slotTaken 6 with cfg := { s.cfg with commitPending := true, fault := (.none, 0) } } 3 .pending)) ∧
    (∀ fault, arg = 0 → s.cfg.commitPending = false → s.cfg.staged.firstFault = some fault →
      exec (.configCommitAtNext arg) s = .next (State.finished
        { s.slotTaken 6 with cfg := { s.cfg with fault := fault } } 3 .badArg)) ∧
    (2 ≤ arg.toNat → exec (.configCommitAtNext arg) s = .next ((s.slotTaken 6).finished 3 .badArg))

/-- R76, R77, R79, R138, R139: FORCE_CLOSE and CONFIG_COMMIT NOW with no close in progress close the interval with FORCED and SHORT
and open the next one at the calendar's time. For NOW a set already pending, or one that passes, is applied at that opening; a set
that fails closes nothing. -/
def Obligations.ForceCloseAndCommitNowClose : Prop :=
  ∀ (s : State),
    (∀ arg, s.commandReady 6 → ∃ u, exec (.forceClose arg) s = .next (u.finished 6 .ok) ∧
      (s.slotTaken 6).closeBegan u .forceClose s.cal.time s.cal.valid) ∧
    (s.commandReady 3 →
      (s.cfg.commitPending = true → ∃ u, exec .configCommitNow s = .next (u.finished 3 .ok) ∧
        (s.slotTaken 6).closeBegan u .commitNow s.cal.time s.cal.valid) ∧
      (s.cfg.commitPending = false → s.cfg.staged.firstFault = none →
        ∃ u, exec .configCommitNow s = .next (u.finished 3 .ok) ∧
          State.closeBegan { s.slotTaken 6 with cfg := { s.cfg with fault := (.none, 0) } } u .commitNow s.cal.time s.cal.valid) ∧
      ∀ fault, s.cfg.commitPending = false → s.cfg.staged.firstFault = some fault →
        exec .configCommitNow s = .next (State.finished
          { s.slotTaken 6 with cfg := { s.cfg with fault := fault } } 3 .badArg))

/-- R140, R141: CONFIG_CANCEL and CONFIG_FETCH in the command unit's IDLE state, during a close as at any other time. -/
def Obligations.CancelAndFetch : Prop :=
  ∀ (s : State) (arg : Byte), s.main.cmd.waiting = none →
    (s.commandSlot 4 → exec (.configCancel arg) s = .next (if s.cfg.commitPending then
      State.finished { s.slotTaken 6 with cfg := { s.cfg with commitPending := false } } 4 .ok
      else (s.slotTaken 6).finished 4 .noPending)) ∧
    (s.commandSlot 5 → exec (.configFetch arg) s = .next (if s.cfg.commitPending then (s.slotTaken 6).finished 5 .frozen
      else State.finished { s.slotTaken 6 with cfg := { s.cfg with staged := s.cfg.active } } 5 .ok))

/-- R107, R108, R112, R113: RECORD_OPEN, RECORD_RELEASE and QUEUE_FLUSH in the command unit's IDLE state. The held record is the one
at the head, of length n. The model's choices: its length is the one it was stored with, not one read back from H0 (log 7), and the
read pointer and the running sum, abandoned when a hold ends, hold 0 (log 9). -/
def Obligations.RecordCommands : Prop :=
  ∀ (s : State) (arg : Byte), s.main.cmd.waiting = none →
    let q := s.queue
    (s.commandSlot 10 → (q.hold = false ∧ q.count = 0 →
        exec (.recordOpen arg) s = .next ((s.slotTaken 6).finished 10 .empty)) ∧
      (q.hold = true ∨ q.count ≠ 0 → exec (.recordOpen arg) s = .next (State.finished { s.slotTaken 6 with
        queue := { q with hold := true, readPtr := 0, runningSum := 0, readStatus := .reading } } 10 .ok))) ∧
    (s.commandSlot 11 → (q.hold = false → exec (.recordRelease arg) s = .next ((s.slotTaken 6).finished 11 .noHold)) ∧
      ∀ n rest, q.hold = true → q.lens = n :: rest →
        exec (.recordRelease arg) s = .next (State.finished { s.slotTaken 6 with
          queue := { q with
            head := (q.head + n) % 2048, count := q.count - 1, used := q.used - n, lens := rest
            hold := false, readPtr := 0, runningSum := 0, readStatus := .noRecord } } 11 .ok)) ∧
    (s.commandSlot 12 → exec (.queueFlush arg) s = .next (State.finished { s.slotTaken 6 with
      queue := { q with
        head := 0, tail := 0, count := 0, used := 0, lens := []
        hold := false, readPtr := 0, runningSum := 0, readStatus := .noRecord } } 12 .ok))

/-- R178, R16, R91, R115, R142, R50: SOFT_RESET in IDLE or WAITING. The main domain starts again but for the time load fields; every
sample in flight is dropped in the bank of its tag and a DRAIN ends; a pending commit and a hold end; a waiting command is aborted;
the retained accounts stay. The model's choices: the read pointer and the running sum hold 0 after the hold (log 9), the transaction
in which the command arrived is ignored to its end (log 25), SDO keeps the byte it sends (log 12), the direction is a write (log 11) and the parts of the invalid
image hold 0 (log 9). -/
def Obligations.SoftResetRestartsTheMainDomain : Prop :=
  ∀ (s : State) (arg : Byte), s.commandSlot 13 →
    ∃ t, exec (.softReset arg) s = .next t ∧
      (∀ g, t.bank g = { s.bank g with
        dropped := BitVec.ofNat 12 (min ((s.bank g).dropped.toNat + s.main.inFlight.countP fun x => x.tag == g) 4095) }) ∧
      t.ic = { s.ic with stage := if s.ic.stage = .drain then .build else s.ic.stage } ∧
      t.cfg = { s.cfg with commitPending := false } ∧
      t.queue = { s.queue with hold := false, readPtr := 0, runningSum := 0, readStatus := .noRecord } ∧
      t.main = { State.reset.main with
        timeLoad := s.main.timeLoad
        win := { State.reset.main.win with txn := .ignoring, sdo := s.main.win.sdo }
        cmd := match s.main.cmd.waiting with
          | some (c, _) => ⟨none, c.code, .aborted⟩
          | none => ⟨none, 13, .ok⟩ } ∧
      t.events = (if s.main.inFlight = [] then s.events else s.events.set .main .sampleDrop).set .main .cmdDone ∧
      t.pending = s.pending ∧ t.freeCount = s.freeCount ∧ t.oscRunning = s.oscRunning ∧ t.csnHigh = s.csnHigh ∧
      t.monitor = s.monitor ∧ t.cal = s.cal ∧ t.totals = s.totals ∧ t.demand = s.demand

/-- R174, R176: what the command unit does before any owner acts. In IDLE a code that Table 59 does not name completes UNKNOWN; a
command that waits for a close is kept while one is in progress; TIME_TRIM with an argument out of range completes BAD_ARG without
waiting; while a command waits every other command but SOFT_RESET is refused with BUSY. -/
def Obligations.CommandUnitTakesWaitsOrRefuses : Prop :=
  ∀ (s : State) (c : Cmd) (arg code : Byte),
    (s.main.cmd.waiting = none → s.commandSlot code → (code = 0 ∨ 14 ≤ code.toNat) →
      exec (.unknownCommand arg) s = .next ((s.slotTaken 6).finished code .unknown)) ∧
    (s.main.cmd.waiting = none → s.commandSlot c.code → s.ic.stage ≠ .idle →
      (c ∈ [Cmd.timeLoad, .forceClose, .snapshot, .totalsClear, .demandReset] ∨
        c = .timeTrim ∧ arg.toInt ≠ 0 ∧ -30 ≤ arg.toInt ∧ arg.toInt ≤ 30 ∨ c = .configCommit ∧ arg = 1) →
      exec (c.row arg) s = .next { s.slotTaken 6 with main := { (s.slotTaken 6).main with
        cmd := { s.main.cmd with waiting := some (c, arg) } } }) ∧
    (s.main.cmd.waiting = none → s.commandSlot 2 → (arg.toInt = 0 ∨ arg.toInt < -30 ∨ 30 < arg.toInt) →
      exec (.timeTrim arg) s = .next ((s.slotTaken 6).finished 2 .badArg)) ∧
    (s.main.cmd.waiting ≠ none → s.commandSlot c.code → c ≠ .softReset →
      exec (c.row arg) s = .next { s.slotTaken 6 with
        main := { (s.slotTaken 6).main with cmd := { s.main.cmd with resultCode := c.code, result := .busy } }
        events := s.events.set .main .cmdDone }) ∧
    (s.main.cmd.waiting ≠ none → s.commandSlot code → (code = 0 ∨ 14 ≤ code.toNat) →
      exec (.unknownCommand arg) s = .next { s.slotTaken 6 with
        main := { (s.slotTaken 6).main with cmd := { s.main.cmd with resultCode := code, result := .busy } }
        events := s.events.set .main .cmdDone })

/-- R175: a waiting command handed over with no close in progress has, on everything but the window, the effect that the same
command has when it is written now in IDLE; with a close in progress again it stays WAITING. -/
def Obligations.HandOverIsTheCommandWrittenNow : Prop :=
  ∀ (s : State) (c : Cmd) (arg : Byte), s.monitor.supply = .main → s.main.cmd.waiting = some (c, arg) →
    (s.ic.stage = .idle → c ≠ .softReset →
      ∃ t, exec .commandHandover s = .next t ∧ t.main.cmd.waiting = none ∧
        exec (c.row arg) { s with main := { s.main with
            win := { s.main.win with txn := .data, reading := false, pointer := 5, latch := some ⟨4, [c.code]⟩ }
            cmd := { s.main.cmd with waiting := none } } } =
          .next { t with main := { t.main with
            win := { s.main.win with txn := .data, reading := false, pointer := 6, latch := none } } }) ∧
    (s.ic.stage ≠ .idle → exec .commandHandover s = .next s)

/-! ### The stages of a close -/

/-- R83, R84, R98, R100: BUILD makes the INTERVAL record of the closing bank, with one entry for each channel that has per-channel
state, in ascending order, and a check word that makes all its halves add up to 0; the record waits in the interval controller. -/
def Obligations.BuildAssemblesTheRecord : Prop :=
  ∀ (s : State), s.ic.stage = .build →
    let b := s.bank s.openTag.other
    ∃ r : Record, exec .build s = .next { s with ic := { s.ic with
        built := some r, nextSeq := s.ic.nextSeq + 1, anyBuilt := true, stage := .credit } } ∧
      r.kind = .interval ∧ r.flags = b.flags ∧ r.tariff = b.tariff ∧ r.sequence = s.ic.nextSeq ∧ r.stamp = b.start.stamp ∧
      r.nominal = b.nominal ∧ r.covered = b.covered ∧ r.dropped = b.dropped ∧ r.rejected = b.rejected ∧ r.gaps = b.gaps ∧
      r.lostBefore = s.queue.lost ∧ r.missed = 0 ∧ halfSum r.words = 0 ∧ r.entries.Pairwise (fun x y => x.channel < y.channel) ∧
      ∀ c : Fin 6, (∀ k, b.chans[c] = some k → ⟨c, k.accOvf, k.inSat, k.unpaired, k.count, k.acc⟩ ∈ r.entries) ∧
        ∀ e ∈ r.entries, e.channel = c → b.chans[c] = some ⟨e.value, e.count, e.accOvf, e.inSat, e.unpaired⟩

/-- R99, R100, Table 38: the words of a record. Each field stands in its own bits, the bits between them are 0, every record has
five header words and three for each entry, and with the check word in place all halves add up to 0 modulo 65536. -/
def Obligations.RecordWords : Prop :=
  ∀ (r : Record), r.nominal < 64 → r.stamp.year < 128 → r.stamp.month < 16 → r.stamp.day < 32 → r.stamp.hour < 32 →
    r.stamp.minute < 64 → r.entries.length ≤ 6 →
    r.words.length = 5 + 3 * r.entries.length ∧
    halfSum { r with check := 0 - halfSum { r with check := 0 }.words }.words = 0 ∧
    (∃ h0 h1 h2 h3 h4 rest, r.words = h0 :: h1 :: h2 :: h3 :: h4 :: rest ∧
      h0.getLsbD 31 = decide (r.kind = .gap) ∧ (h0.extractLsb' 28 3).toNat = r.entries.length ∧
      h0.getLsbD 27 = r.flags.short ∧ h0.getLsbD 26 = r.flags.power ∧ h0.getLsbD 25 = r.flags.timeset ∧
      h0.getLsbD 24 = r.flags.forced ∧ h0.getLsbD 23 = r.flags.config ∧ h0.getLsbD 22 = r.flags.timeInv ∧
      (h0.extractLsb' 20 2).toNat = r.tariff.val ∧ h0.extractLsb' 16 4 = 0 ∧ h0.extractLsb' 0 16 = r.sequence ∧
      (h1.extractLsb' 25 7).toNat = r.stamp.year ∧ (h1.extractLsb' 21 4).toNat = r.stamp.month ∧
      (h1.extractLsb' 16 5).toNat = r.stamp.day ∧ (h1.extractLsb' 11 5).toNat = r.stamp.hour ∧
      (h1.extractLsb' 5 6).toNat = r.stamp.minute ∧ h1.extractLsb' 0 5 = 0 ∧
      (h2.extractLsb' 26 6).toNat = r.nominal ∧ h2.extractLsb' 14 12 = r.covered ∧ h2.extractLsb' 2 12 = r.dropped ∧
      h2.extractLsb' 0 2 = 0 ∧ h3.extractLsb' 24 8 = r.rejected ∧ h3.extractLsb' 16 8 = r.gaps ∧
      h3.extractLsb' 4 12 = r.lostBefore ∧ h3.extractLsb' 0 4 = 0 ∧ h4.extractLsb' 16 16 = r.missed ∧
      h4.extractLsb' 0 16 = r.check) ∧
    ∀ (i : Nat) (e : RecordEntry), r.entries[i]? = some e →
      ∃ e0 e1 e2, (r.words.drop (5 + 3 * i)).take 3 = [e0, e1, e2] ∧
        (e0.extractLsb' 29 3).toNat = e.channel.val ∧ e0.getLsbD 28 = e.accOvf ∧ e0.getLsbD 27 = e.inSat ∧
        e0.getLsbD 26 = e.unpaired ∧ e0.extractLsb' 16 10 = 0 ∧ e0.extractLsb' 0 16 = e.count ∧
        e1 = e.value.extractLsb' 16 32 ∧ e2.extractLsb' 16 16 = e.value.extractLsb' 0 16 ∧ e2.extractLsb' 0 16 = 0

/-- R85, R119, R120, R122: CREDIT adds each channel entry of the record into the total of its channel and the record's tariff, limited
to 64 bits, and where the record carries neither SHORT nor POWER offers it to the demand entry, which only a strictly greater value
replaces. Every other total and demand entry stays. -/
def Obligations.CreditStage : Prop :=
  ∀ (s : State) (r : Record), s.ic.stage = .credit → s.ic.built = some r →
    r.entries.Pairwise (fun x y => x.channel < y.channel) →
    ∃ t, exec .credit s = .next t ∧ t.ic = { s.ic with stage := .store } ∧
      (∀ e ∈ r.entries,
        let old := s.totals[e.channel][r.tariff]
        let sum := old.value.toInt + e.value.toInt
        (t.totals[e.channel][r.tariff].value.toInt = max (-9223372036854775808) (min sum 9223372036854775807)) ∧
        t.totals[e.channel][r.tariff].ovf = (old.ovf || decide (sum < -9223372036854775808 ∨ 9223372036854775807 < sum)) ∧
        t.demand[e.channel][r.tariff] =
          if r.flags.short = true ∨ r.flags.power = true then s.demand[e.channel][r.tariff]
          else match s.demand[e.channel][r.tariff] with
            | none => some ⟨e.value, r.stamp, e.accOvf⟩
            | some d => if d.value.toInt < e.value.toInt then some ⟨e.value, r.stamp, e.accOvf⟩ else some d) ∧
      (∀ (c : Fin 6) (k : Fin 4), (k ≠ r.tariff ∨ ∀ e ∈ r.entries, e.channel ≠ c) →
        t.totals[c][k] = s.totals[c][k] ∧ t.demand[c][k] = s.demand[c][k]) ∧
      t.events = (if ∃ e ∈ r.entries,
          s.totals[e.channel][r.tariff].value.toInt + e.value.toInt < -9223372036854775808 ∨
          9223372036854775807 < s.totals[e.channel][r.tariff].value.toInt + e.value.toInt
        then s.events.set s.monitor.supply .accOvf else s.events) ∧
      t.bankA = s.bankA ∧ t.bankB = s.bankB ∧ t.cfg = s.cfg ∧ t.queue = s.queue ∧ t.main = s.main ∧ t.cal = s.cal ∧
      t.monitor = s.monitor ∧ t.pending = s.pending ∧ t.freeCount = s.freeCount ∧ t.oscRunning = s.oscRunning ∧
      t.csnHigh = s.csnHigh

/-- R86, R87, R88, R92, R93, R101 to R105, R147, R148, R152: STORE and the completion of the close, which completes in every state.
The record is offered to the record queue; the CLOSING bank is FREE, the close stage IDLE, BOUNDARY set. A GAP record that is due is
built and offered after it; then a held deferred boundary is acted on in the same event at the held instant: it begins a close, or
ends a missed interval where it was handed over in BACKUP with the backup boundary state TAKEN. The model's choices: a boundary
released while the supply is BACKUP leaves TAKEN also where it was handed over in BACKUP (log 14; R147 says it of one handed over in
MAIN), the missed interval ends so in either supply state, and a GAP record due without a first-missed record builds nothing (log
19). -/
def Obligations.StoreCompletesTheClose : Prop :=
  ∀ (s : State) (r : Record), s.ic.stage = .store → s.ic.built = some r →
    ∃ after u : State, exec .store s = .next u ∧ (s.tookOffer r).closeDone.gapBuilt after ∧
      match s.ic.deferred with
      | none => u = after
      | some d =>
        let released : State := { after with ic := { after.ic with deferred := none } }
        if d.handedIn = .backup ∧ d.found = .taken then released.missEnded u d.instant d.calValid
        else State.closeBegan { released with ic := { released.ic with
            backupBoundary := if s.monitor.supply = .backup then .taken else s.ic.backupBoundary } } u .boundary d.instant d.calValid

/-! ### The record queue -/

/-- R101, R102, R103, R104: what the record queue does with a record offered to it. One that fits is stored at the tail and the lost
count returns to 0; one that does not is lost under STOP or with the head held; under OVERWRITE just as many of the oldest records
as it takes are discarded, whole, and it is stored. Over every memory, one with an altered H0 too, a discard advances the head and the
used words by the length that the record was stored with (the model's choice, log 7). -/
def Obligations.QueueTakesAnOffer : Prop :=
  ∀ (q : RecordQueue) (ws : List Word), q.inv → 5 ≤ ws.length → ws.length ≤ 23 →
    (q.used + ws.length ≤ 2048 → q.offer ws = { q with
      mem := q.mem.writeWords q.tail ws, tail := (q.tail + ws.length) % 2048, count := q.count + 1
      used := q.used + ws.length, lens := q.lens ++ [ws.length], lost := 0 }) ∧
    (2048 < q.used + ws.length → q.overwrite = false ∨ q.hold = true →
      q.offer ws = { q with lost := BitVec.ofNat 12 (min (q.lost.toNat + 1) 4095) }) ∧
    (2048 < q.used + ws.length → q.overwrite = true → q.hold = false →
      ∃ k, 1 ≤ k ∧ k ≤ q.lens.length ∧ (q.lens.drop k).sum + ws.length ≤ 2048 ∧ 2048 < (q.lens.drop (k - 1)).sum + ws.length ∧
        q.offer ws = { q with
          mem := q.mem.writeWords q.tail ws
          head := (q.head + (q.lens.take k).sum) % 2048
          tail := (q.tail + ws.length) % 2048
          count := q.count - k + 1
          used := (q.lens.drop k).sum + ws.length
          lens := q.lens.drop k ++ [ws.length]
          lost := 0 })

/-- R97, R98: the record memory is a ring of 2048 words. Words written from an address onward read back at their own addresses, every
other word is as before, and the canonical form is kept; RECORD_MEMORY_FAULT changes the named bits of one word and nothing else. -/
def Obligations.RecordMemoryKeepsWords : Prop :=
  (∀ (m : RecordMemory) (a : Nat) (ws : List Word), m.wf = true → ws.length ≤ 2048 →
    (m.writeWords a ws).wf = true ∧
    (∀ i w, ws[i]? = some w → (m.writeWords a ws).read ((a + i) % 2048) = w) ∧
    ∀ b, b < 2048 → (∀ i, i < ws.length → (a + i) % 2048 ≠ b) → (m.writeWords a ws).read b = m.read b) ∧
  ∀ (s : State) (address : BitVec 11) (flips : Word), s.monitor.supply ≠ .absent → s.queue.mem.wf = true →
    ∃ mem, exec (.recordMemoryFault address flips) s = .next { s with queue := { s.queue with mem := mem } } ∧
      mem.wf = true ∧ mem.read address.toNat = s.queue.mem.read address.toNat ^^^ flips ∧
      ∀ b, b ≠ address.toNat → mem.read b = s.queue.mem.read b

/-- R109, R110: a reading of the held record from its first word. Before the last word the status stays READING; when the last word
is delivered the verdict is CHECK_OK exactly when the halves of all its words add up to 0. Over every memory, one with an altered H0
too, the last word is the one that the stored length gives (the model's choice, log 7). -/
def Obligations.VerdictAtTheLastWord : Prop :=
  ∀ (q : RecordQueue) (n : Nat), q.readStatus = .reading → q.readPtr = 0 → q.runningSum = 0 → q.lens.head? = some n → 1 ≤ n →
    let words := fun k => (List.range k).map fun i => q.mem.read ((q.head + i) % 2048)
    (∀ k, k < n → Nat.repeat RecordQueue.deliver k q = { q with readPtr := k, runningSum := halfSum (words k) }) ∧
    Nat.repeat RecordQueue.deliver n q = { q with
      readPtr := n, runningSum := halfSum (words n)
      readStatus := if halfSum (words n) = 0 then .checkOk else .checkBad }

/-- R109, R110, R111, R167: one byte slot at RECORD_DATA. While READING it sends the next byte of the word at the read pointer, most
significant first, and the fourth byte delivers the word, with CHECK_BAD where that gives the bad verdict; after a verdict the
first byte is 0 and makes the status PAST_END; with NO_RECORD or PAST_END it is 0 and changes nothing. The pointer stays. Each byte
is that of the word as the memory then holds it, and the word added is the one that stands there at its fourth byte (the model's
choice where a memory fault falls between them, log 27). -/
def Obligations.RecordDataBytes : Prop :=
  ∀ (s : State), s.readSlot 0x2C →
    let w := s.queue.mem.read ((s.queue.head + s.queue.readPtr) % 2048)
    let q := s.queue.deliver
    (∀ k, s.queue.readStatus = .reading → s.main.win.wordPos = k → k < 3 →
      exec .recordDataRead s = .next { s with main := { s.main with win := { s.main.win with
        wordPos := k + 1, sdo := some ((w >>> (8 * (3 - k))).setWidth 8) } } }) ∧
    (s.queue.readStatus = .reading → s.main.win.wordPos = 3 →
      exec .recordDataRead s = .next { s with
        queue := q
        events := if q.readStatus = .checkBad then s.events.set .main .checkBad else s.events
        main := { s.main with win := { s.main.win with wordPos := 0, sdo := some (w.setWidth 8) } } }) ∧
    (s.queue.readStatus = .checkOk ∨ s.queue.readStatus = .checkBad →
      exec .recordDataRead s = .next { s with
        queue := { s.queue with readStatus := .pastEnd }, main := { s.main with win := { s.main.win with sdo := some 0 } } }) ∧
    (s.queue.readStatus = .noRecord ∨ s.queue.readStatus = .pastEnd →
      exec .recordDataRead s = .next { s with main := { s.main with win := { s.main.win with sdo := some 0 } } })

/-! ### The register window -/

/-- R166, R167, R11: the frame of a transaction. The fall of CSN opens it, the address byte sets direction and pointer, and the rise
ends it, with WINDOW_FAULT where a sample group was left incomplete. The pointer moves on within its half of the window and stays at
the two streaming ports. That SDO is none after the address byte of a write, of which the spec states no level, is the model's choice,
as is none for its high impedance (log 12). -/
def Obligations.TransactionFrame : Prop :=
  ∀ (s : State), s.monitor.supply = .main →
    (s.csnHigh = true → exec .csnFall s = .next { s with
      csnHigh := false, main := { s.main with win := { s.main.win with txn := .address } } }) ∧
    (∀ b, s.main.win.txn = .address → exec (.addressByte b) s = .next { s with main := { s.main with win := { s.main.win with
      txn := .data, reading := decide (128 ≤ b.toNat), pointer := BitVec.ofNat 7 b.toNat
      sdo := if 128 ≤ b.toNat then some 0 else none } } }) ∧
    (s.csnHigh = false → exec .csnRise s = .next { s with
      csnHigh := true
      events := if s.main.group = [] then s.events else s.events.set .main .windowFault
      main := { s.main with
        group := []
        win := { s.main.win with
          txn := .idle, latch := none, capture := none, calImage := none, wordPos := 0, sdo := none } } }) ∧
    ∀ p : BitVec 7, (nextPointer p).toNat = if p = 0x2B ∨ p = 0x2C then p.toNat else if p = 0x3F then 0 else if p = 0x7F then 0x40
      else p.toNat + 1

/-- R168, R49, R172: a read slot anywhere but at RECORD_DATA. An unused address sends 0; a single byte is sent as it stands; the
first byte of a field captures the whole field; a later byte comes from the capture, whatever the owner holds by then; the calendar
image is captured once in a transaction. Nothing but the window controller changes. And what the registers hold: each register of
Tables 56 and 57 under every page, its address, access, width and contents, every other address unused (R36, R49, R126, R136). That
RECORD_DATA_READ is the read slot at every other address too is the model's choice (log 5), and so are the bits that the tables leave
out, which read 0, and 1 for true and 0 for false where they give an indication no values (log 28). -/
def Obligations.ReadsAreCoherent : Prop :=
  (∀ (s : State) (a : BitVec 7), s.readSlot a →
    let at' := registerAt s.main.win.page a.toNat
    let sent := fun (s' : State) (b : Byte) => s'.modifyWin fun w => { w with pointer := nextPointer a, sdo := some b }
    (at' = none → exec .recordDataRead s = .next (sent s 0)) ∧
    ∀ r k, at' = some (r, k) → r ≠ .recordData →
      (r.width = 1 → exec .recordDataRead s = .next (sent s ((s.regBytes r).getD 0 0))) ∧
      (1 < r.width → k = 0 → r ≠ .calendar → exec .recordDataRead s = .next
        (sent (s.modifyWin fun w => { w with capture := some ⟨a.toNat, s.regBytes r⟩ }) ((s.regBytes r).getD 0 0))) ∧
      (∀ bytes, 1 < r.width → k ≠ 0 → r ≠ .calendar → s.main.win.capture = some ⟨a.toNat - k, bytes⟩ →
        exec .recordDataRead s = .next (sent s (bytes.getD k 0))) ∧
      (r = .calendar → s.main.win.calImage = none → exec .recordDataRead s = .next
        (sent (s.modifyWin fun w => { w with calImage := some (s.regBytes .calendar) }) ((s.regBytes .calendar).getD k 0))) ∧
      (∀ bytes, r = .calendar → s.main.win.calImage = some bytes → exec .recordDataRead s = .next (sent s (bytes.getD k 0)))) ∧
  (∀ s : State, (∀ p : Page, s.fixedRegistersShown p) ∧ s.livePageShown ∧ s.stagedPagesShown ∧ s.snapshotPageShown) ∧ registerCodes

/-- R169, R170: a write byte that completes no field. The first byte of a field of several bytes starts the latch, the next ones join
it in order; a later byte without the earlier ones, and any byte at a read-only or unused address, is ignored with WINDOW_FAULT. That a
stray last byte is ignored so in each of the field's own rows as well as in FIELD_LATCH_BYTE is the model's choice (log 18). -/
def Obligations.FieldLatchAndIgnoredBytes : Prop :=
  ∀ (s : State) (a : BitVec 7) (b : Byte), s.writeSlot a →
    (∀ r k, registerAt s.main.win.page a.toNat = some (r, k) → r.access ≠ .readOnly → k + 1 < r.width →
      (k = 0 → exec (.fieldLatchByte b) s = .next { s with main := { s.main with win := { s.main.win with
        latch := some ⟨a.toNat, [b]⟩, pointer := nextPointer a } } }) ∧
      (∀ bytes, k ≠ 0 → s.main.win.latch = some ⟨a.toNat - k, bytes⟩ → bytes.length = k →
        exec (.fieldLatchByte b) s = .next { s with main := { s.main with win := { s.main.win with
          latch := some ⟨a.toNat - k, bytes ++ [b]⟩, pointer := nextPointer a } } })) ∧
    (∀ r k, registerAt s.main.win.page a.toNat = some (r, k) → r.access ≠ .readOnly → k ≠ 0 → 1 < r.width →
      (∀ bytes, s.main.win.latch = some ⟨a.toNat - k, bytes⟩ → bytes.length ≠ k) →
      exec (.fieldLatchByte b) s = .next (s.slotIgnored (nextPointer a))) ∧
    (∀ r k, registerAt s.main.win.page a.toNat = some (r, k) → k ≠ 0 → k + 1 = r.width →
      (∀ bytes, s.main.win.latch = some ⟨a.toNat - k, bytes⟩ → bytes.length ≠ k) →
      ∀ c ∈ r.lastByteRows b, exec c s = .next (s.slotIgnored (nextPointer a))) ∧
    ((registerAt s.main.win.page a.toNat = none ∨ ∃ r k, registerAt s.main.win.page a.toNat = some (r, k) ∧ r.access = .readOnly) →
      exec (.readOnlyWrite b) s = .next (s.slotIgnored (nextPointer a)))

/-- R171: PAGE takes 0 to 4 and the slot selects take 0 to 19 and 0 to 15, also while the staged set is frozen; a greater value is
ignored with WINDOW_FAULT. -/
def Obligations.PageAndSlotSelects : Prop :=
  ∀ (s : State) (b : Byte),
    (s.writeSlot 0x00 →
      (∀ p : Page, p.code = b.toNat → exec (.pageWrite b) s = .next { s.slotTaken 0x01 with
        main := { s.main with win := { s.main.win with latch := none, pointer := 0x01, page := p } } }) ∧
      (4 < b.toNat → exec (.pageWrite b) s = .next (s.slotTaken 0x01).faulted)) ∧
    (s.writeSlot 0x48 → s.main.win.page = .schedule →
      (∀ i : Fin 20, b.toNat = i.val → exec (.slotSelectWrite b) s = .next { s with
        main := { s.main with win := { s.main.win with latch := none, pointer := 0x49, schedSlot := i } } }) ∧
      (20 ≤ b.toNat → exec (.slotSelectWrite b) s = .next (s.slotTaken 0x49).faulted)) ∧
    (s.writeSlot 0x40 → s.main.win.page = .specialDays →
      (∀ i : Fin 16, b.toNat = i.val → exec (.slotSelectWrite b) s = .next { s with
        main := { s.main with win := { s.main.win with latch := none, pointer := 0x41, specSlot := i } } }) ∧
      (16 ≤ b.toNat → exec (.slotSelectWrite b) s = .next (s.slotTaken 0x41).faulted))

/-- R133, R134, R171: the last byte of a field of the staged set. Unfrozen, the field takes all its bytes as written, in range or not,
and reads them back; every other field of the set, in the selected slots and in the others, is as before, and no other block
changes. Frozen, the field keeps its value and WINDOW_FAULT is set. -/
def Obligations.StagedFieldWrites : Prop :=
  ∀ (s : State) (a : BitVec 7) (r : Reg) (k : Nat) (earlier : List Byte) (b : Byte), s.writeSlot a →
    registerAt s.main.win.page a.toNat = some (r, k) → r.staged = true → k + 1 = r.width →
    (k = 0 ∧ earlier = [] ∨ k ≠ 0 ∧ s.main.win.latch = some ⟨a.toNat - k, earlier⟩ ∧ earlier.length = k) →
    (s.cfg.commitPending = false → ∃ staged : ConfigSet,
      let t : State := { s.slotTaken (nextPointer a) with cfg := { s.cfg with staged := staged } }
      exec (.stagedFieldWrite b) s = .next t ∧ t.regBytes r = earlier ++ [b] ∧
      (∀ a' r' k', registerAt s.main.win.page a'  = some (r', k') → r' ≠ r → t.regBytes r' = s.regBytes r') ∧
      (∀ i : Fin 20, i ≠ s.main.win.schedSlot ∨ s.main.win.page ≠ .schedule → staged.schedule[i] = s.cfg.staged.schedule[i]) ∧
      (∀ i : Fin 16, i ≠ s.main.win.specSlot ∨ s.main.win.page ≠ .specialDays → staged.specials[i] = s.cfg.staged.specials[i]) ∧
      (s.main.win.page ≠ .channels ∨ a.toNat < 0x40 → staged.channels = s.cfg.staged.channels) ∧
      (s.main.win.page ≠ .schedule ∨ a.toNat < 0x40 →
        staged.dayTypes = s.cfg.staged.dayTypes ∧ staged.defaultTariff = s.cfg.staged.defaultTariff)) ∧
    (s.cfg.commitPending = true → exec (.stagedFieldWrite b) s = .next (s.slotTaken (nextPointer a)).faulted)

/-- R157, R159, R161: CAUSE_CLEAR removes the causes written as 1; a mask takes the twelve positions and holds no others; a mode takes
0 to 3, ending a pulse where it leaves PULSE, and a greater byte is ignored with WINDOW_FAULT. Both outputs alike. -/
def Obligations.EventUnitRegisters : Prop :=
  ∀ (s : State) (hi lo : Byte),
    let set := (hi ++ lo).setWidth 12
    (s.writeSlot 0x09 → s.main.win.latch = some ⟨0x08, [hi]⟩ → exec (.causeClear lo) s = .next { s.slotTaken 0x0A with
      events := { s.events with pending := s.events.pending &&& ~~~ set } }) ∧
    (s.writeSlot 0x0B → s.main.win.latch = some ⟨0x0A, [hi]⟩ → exec (.maskWrite lo) s = .next { s.slotTaken 0x0C with
      events := { s.events with a := { s.events.a with mask := set } } }) ∧
    (s.writeSlot 0x0E → s.main.win.latch = some ⟨0x0D, [hi]⟩ → exec (.maskWrite lo) s = .next { s.slotTaken 0x0F with
      events := { s.events with b := { s.events.b with mask := set } } }) ∧
    (∀ m : OutputMode, m.code = lo.toNat →
      (s.writeSlot 0x0C → exec (.modeWrite lo) s = .next { s.slotTaken 0x0D with
        events := { s.events with a := { s.events.a with mode := m, pulse := if m = .pulse then s.events.a.pulse else .idle } } }) ∧
      (s.writeSlot 0x0F → exec (.modeWrite lo) s = .next { s.slotTaken 0x10 with
        events := { s.events with b := { s.events.b with mode := m, pulse := if m = .pulse then s.events.b.pulse else .idle } } })) ∧
    (4 ≤ lo.toNat →
      (s.writeSlot 0x0C → exec (.modeWrite lo) s = .next (s.slotTaken 0x0D).faulted) ∧
      (s.writeSlot 0x0F → exec (.modeWrite lo) s = .next (s.slotTaken 0x10).faulted))

/-- R106, R126, R50: the registers of the record queue, SNAP_ITEM and the time load fields, each with the values that it takes and, for
the policy and SNAP_ITEM, those that it ignores with WINDOW_FAULT. -/
def Obligations.OwnerRegisters : Prop :=
  ∀ (s : State) (b : Byte),
    (s.writeSlot 0x28 →
      (b = 0 → exec (.queuePolicyWrite b) s = .next { s.slotTaken 0x29 with queue := { s.queue with overwrite := false } }) ∧
      (b = 1 → exec (.queuePolicyWrite b) s = .next { s.slotTaken 0x29 with queue := { s.queue with overwrite := true } }) ∧
      (2 ≤ b.toNat → exec (.queuePolicyWrite b) s = .next (s.slotTaken 0x29).faulted)) ∧
    (s.writeSlot 0x29 → exec (.levelThresholdWrite b) s = .next { s.slotTaken 0x2A with queue := { s.queue with threshold := b } }) ∧
    (∀ channel : Byte, s.writeSlot 0x4C → s.main.win.page = .snapshot → s.main.win.latch = some ⟨0x4B, [channel]⟩ →
      (∀ (c : Fin 6) (t : Fin 4), channel.toNat = c.val → b.toNat = t.val → exec (.snapItemWrite b) s = .next { s with
        main := { (s.slotTaken 0x4D).main with snapItem := (c, t) } }) ∧
      (5 < channel.toNat ∨ 3 < b.toNat → exec (.snapItemWrite b) s = .next (s.slotTaken 0x4D).faulted)) ∧
    ∀ i : Nat, i < 6 → s.writeSlot (BitVec.ofNat 7 (0x18 + i)) →
      ∃ f : TimeLoadFields, f.bytes = s.main.timeLoad.bytes.set i b ∧ exec (.registerWrite b) s = .next { s with
        main := { (s.slotTaken (BitVec.ofNat 7 (0x19 + i))).main with timeLoad := f } }

/-! ### Supplies and event outputs -/

/-- R144, R146, R147, R163, R92, R115, R16: backup entry. The main domain is lost, its samples counted as dropped in their banks with
SAMPLE_DROP, the OPEN bank takes POWER, a DRAIN and a hold end, both outputs are released with a return mark for a pulse cut short,
and a waiting command leaves its code. In BACKUP the settling count starts with VDD and is given up without it. That the lost main
domain holds its start values in BACKUP, and the abandoned read pointer and running sum 0 after the hold, is the model's choice (log
9). -/
def Obligations.BackupEntryAndSettling : Prop :=
  ∀ (s : State),
    (s.monitor.supply = .main →
      let ended := fun (o : EventOutput) => { o with pulse := .idle, returnMark := o.returnMark || o.pulse != .idle }
      let released : EventUnit := { s.events with a := ended s.events.a, b := ended s.events.b }
      ∃ t, exec .backupEntry s = .next t ∧
        t.monitor = { s.monitor with supply := .backup, vddOk := false, settling := 0, abandonMark :=
          match s.main.cmd.waiting with
            | some (c, _) => some c.code
            | none => s.monitor.abandonMark } ∧
        t.main = State.reset.main ∧
        (∀ g, t.bank g = { s.bank g with
          flags := { (s.bank g).flags with power := (s.bank g).flags.power || g == s.openTag }
          dropped := BitVec.ofNat 12 (min ((s.bank g).dropped.toNat + s.main.inFlight.countP fun x => x.tag == g) 4095) }) ∧
        t.ic = { s.ic with backupBoundary := .noneTaken, stage := if s.ic.stage = .drain then .build else s.ic.stage } ∧
        t.queue = { s.queue with hold := false, readPtr := 0, runningSum := 0, readStatus := .noRecord } ∧
        t.events = (if s.main.inFlight = [] then released else released.set .backup .sampleDrop) ∧
        t.cal = s.cal ∧ t.cfg = s.cfg ∧ t.totals = s.totals ∧ t.demand = s.demand ∧ t.pending = s.pending ∧
        t.freeCount = s.freeCount ∧ t.oscRunning = s.oscRunning ∧ t.csnHigh = s.csnHigh) ∧
    (s.monitor.supply = .backup → s.monitor.vddOk = false →
      exec .settlingStart s = .next { s with monitor := { s.monitor with vddOk := true, settling := 0 } }) ∧
    (s.monitor.supply = .backup → s.monitor.vddOk = true →
      exec .settlingAbort s = .next { s with monitor := { s.monitor with vddOk := false, settling := 0 } })

/-- R144, R146, R151, R152, R164: backup return, which completes in every state. MAIN again with a started main domain, SUPPLY set, an
abandoned command reported, each output with a return mark in PULSE mode requesting one pulse. Missed intervals make a GAP record
due: with the close stage IDLE it is built and offered in the same event, with the causes of the offer; otherwise it stays due. The
settling count reaches it by itself at its 8192nd crystal period. The model's choices: the row BACKUP_RETURN is taken at any settling
count and moves neither the second phase nor pulses already requested or low (log 3), the idle step is a crystal period (log 2), a GAP record due without a first-missed record builds nothing (log 19), the
causes CMD_DONE, QUEUE_LEVEL and QUEUE_LOSS of the event request pulses by R161 (log 29), and of the start values of the main domain
the direction (log 11), SDO (log 12) and the parts of the invalid image (log 9). -/
def Obligations.BackupReturn : Prop :=
  ∀ (s : State), s.monitor.supply = .backup → s.monitor.vddOk = true → s.oscRunning = true →
    let resumed := fun (o : EventOutput) =>
      { o with pulse := if o.mode = .pulse ∧ o.returnMark = true ∧ o.pulse = .idle then .requested else o.pulse, returnMark := false }
    let supplied : EventUnit := EventUnit.set { s.events with a := resumed s.events.a, b := resumed s.events.b } .main .supply
    let back : State := { s with
      monitor := { s.monitor with
        supply := .main, settling := 0, coldIntoBackup := false, abandonMark := none
        startCause := if s.monitor.coldIntoBackup then s.monitor.startCause else .returned }
      main := { State.reset.main with cmd := match s.monitor.abandonMark with
        | some code => ⟨none, code, .aborted⟩
        | none => ⟨none, 0, .ok⟩ }
      events := match s.monitor.abandonMark with
        | some _ => supplied.set .main .cmdDone
        | none => supplied }
    let due : State := { back with ic := { s.ic with gapDue := s.ic.gapDue || s.ic.missed != 0 } }
    (∃ u, exec .backupReturn s = .next u ∧ (s.ic.stage ≠ .idle → u = due) ∧ (s.ic.stage = .idle → due.gapBuilt u) ∧
      (8191 ≤ s.monitor.settling → s.pending = [] → s.cal.phase + 1 < 32768 →
        s.events.a.pulse = .idle → s.events.b.pulse = .idle →
        step s = .next { u with cal := { s.cal with phase := s.cal.phase + 1 } })) ∧
    (s.monitor.settling < 8191 → s.pending = [] → s.cal.phase + 1 < 32768 →
      s.events.a.pulse = .idle → s.events.b.pulse = .idle →
      step s = .next { s with
        monitor := { s.monitor with settling := s.monitor.settling + 1 }, cal := { s.cal with phase := s.cal.phase + 1 } })

/-- R156, R161, R163: the setting of a cause. A pending one changes nothing. Another becomes pending; an output in PULSE mode with
the cause in its mask requests a pulse in MAIN, where a request or pulse under way absorbs it, and takes a return mark in BACKUP; the
modes and masks stay. -/
def Obligations.SettingACause : Prop :=
  ∀ (e : EventUnit) (x : SupplyState) (c : Cause),
    let e' := e.set x c
    (∀ i, e'.pending.getLsbD i = (e.pending.getLsbD i || decide (i = c.position))) ∧
    (e.pending.getLsbD c.position = true → e' = e) ∧
    ∀ pin : EventPin, let o := e.output pin
      let o' := e'.output pin
      o'.mode = o.mode ∧ o'.mask = o.mask ∧
      (e.pending.getLsbD c.position = false → o.mode = .pulse → o.mask.getLsbD c.position = true →
        (x = .main → o' = { o with pulse := if o.pulse = .idle then .requested else o.pulse }) ∧
        (x = .backup → o' = { o with returnMark := true })) ∧
      (o.mode ≠ .pulse ∨ o.mask.getLsbD c.position = false → o' = o)

/-- R160, R161, R162: the level of an output in each mode, and the course of a pulse: requested, low for two crystal periods, released.
PULSE_START and PULSE_END move the pulse of their own output and nothing else. The model's choices: at these rows, which stand at a
crystal period edge, the second phase, the settling count and the other output's pulse stay, and PULSE_END ends a pulse with two
periods remaining too (log 3), and the idle step is a crystal period (log 2). -/
def Obligations.OutputLevelsAndPulses : Prop :=
  ∀ (s : State) (pin : EventPin),
    let o := s.events.output pin
    (s.monitor.supply ≠ .main → s.outputLow pin = false) ∧
    (s.monitor.supply = .main →
      (o.mode = .off → s.outputLow pin = false) ∧
      (o.mode = .level → (s.outputLow pin = true ↔ ∃ c : Cause, o.mask.getLsbD c.position = true ∧
        s.events.pending.getLsbD c.position = true)) ∧
      (o.mode = .marker → (s.outputLow pin = true ↔ s.cal.phase < 16384)) ∧
      (o.mode = .pulse → (s.outputLow pin = true ↔ o.pulse = .low2 ∨ o.pulse = .low1))) ∧
    (s.oscRunning = true → s.monitor.supply ≠ .absent →
      (o.pulse = .requested → ∃ t, exec (.pulseStart pin) s = .next t ∧ t = { s with events := t.events } ∧
        t.events.pending = s.events.pending ∧ t.events.output pin = { o with pulse := .low2 } ∧
        ∀ other, other ≠ pin → t.events.output other = s.events.output other) ∧
      (o.pulse = .low2 ∨ o.pulse = .low1 → ∃ t, exec (.pulseEnd pin) s = .next t ∧ t = { s with events := t.events } ∧
        t.events.pending = s.events.pending ∧ t.events.output pin = { o with pulse := .idle } ∧
        ∀ other, other ≠ pin → t.events.output other = s.events.output other) ∧
      (s.pending = [] → s.monitor.supply = .main → s.cal.phase + 1 < 32768 →
        ∃ t, step s = .next t ∧ (t.events.output pin).pulse = match o.pulse with
          | .idle => .idle
          | .requested => .low2
          | .low2 => .low1
          | .low1 => .idle))

/-! ### Configuration and schedule -/

/-- R135, R67, R68, R69, R70: a set passes validation exactly when every condition holds; a set that fails names the first entry, in
the order length, channels, day-type map, default tariff, schedule, special days and in ascending index, that does not meet its
conditions, a slot being compared with the used slots of lower index alone. -/
def Obligations.ValidationConditions : Prop :=
  (∀ c : ConfigSet, c.firstFault = none ↔
    c.lengthCode ≤ 6 ∧
    (∀ i : Fin 6, let e := c.channels[i]
      e.enabled = 0 ∨ e.enabled = 1 ∧ e.source ≤ 1 ∧ e.mode ≤ 2 ∧ e.overflow ≤ 1 ∧ e.rounding ≤ 1 ∧
        (e.mode = 2 → c.channels[partner i].enabled = 1 ∧ c.channels[partner i].mode ≠ 2)) ∧
    (∀ i : Fin 7, c.dayTypes[i] ≤ 3) ∧ c.defaultTariff ≤ 3 ∧
    (∀ i : Fin 20, let x := c.schedule[i]
      (x.used = 0 ∨ x.used = 1 ∧ x.dayType ≤ 3 ∧ x.hour ≤ 23 ∧ x.minute ≤ 59 ∧ x.tariff ≤ 3) ∧
      ∀ j : Fin 20, j < i → x.used = 1 → c.schedule[j].used = 1 →
        ¬(c.schedule[j].dayType = x.dayType ∧ c.schedule[j].hour = x.hour ∧ c.schedule[j].minute = x.minute)) ∧
    ∀ i : Fin 16, let x := c.specials[i]
      (x.used = 0 ∨ x.used = 1 ∧ x.yearPresent ≤ 1 ∧ 1 ≤ x.month ∧ x.month ≤ 12 ∧ 1 ≤ x.day ∧ (x.yearPresent = 1 → x.year ≤ 99) ∧
        x.dayType ≤ 3 ∧ x.day.toNat ≤ monthLength (if x.yearPresent = 1 then x.year.toNat else 0) x.month.toNat) ∧
      ∀ j : Fin 16, j < i → x.used = 1 → c.specials[j].used = 1 →
        ¬(c.specials[j].month = x.month ∧ c.specials[j].day = x.day ∧ c.specials[j].yearPresent = x.yearPresent ∧
          (x.yearPresent = 1 → c.specials[j].year = x.year))) ∧
  ∀ (c : ConfigSet) (fault : FaultTable × Nat), c.firstFault = some fault ↔
    ∃ before rest, checkOrder = before ++ fault :: rest ∧ (∀ entry ∈ before, c.meets entry) ∧ ¬ c.meets fault

/-- R62, R63: the lookup in a set that passes validation. The day type is that of a used special day naming the date with its year,
else of one naming it for every year, else of the weekday; the tariff is that of the latest used entry of that day type at or before
the time of day, else the default. -/
def Obligations.TariffLookup : Prop :=
  ∀ (c : ConfigSet) (t : DateTime), c.firstFault = none →
    let named := fun (x : SpecSlot) => x.used = 1 ∧ x.month.toNat = t.month ∧ x.day.toNat = t.day
    let d := c.dayTypeAt t
    (∀ i : Fin 16, named c.specials[i] → c.specials[i].yearPresent = 1 → c.specials[i].year.toNat = t.year →
      d = c.specials[i].dayType) ∧
    (∀ i : Fin 16, named c.specials[i] → c.specials[i].yearPresent = 0 →
      (∀ j : Fin 16, named c.specials[j] → c.specials[j].yearPresent = 1 → c.specials[j].year.toNat ≠ t.year) →
      d = c.specials[i].dayType) ∧
    ((∀ j : Fin 16, named c.specials[j] → c.specials[j].yearPresent = 1 ∧ c.specials[j].year.toNat ≠ t.year) →
      ∀ w : Fin 7, dayOfWeek t = w.val → d = c.dayTypes[w]) ∧
    let reached := fun (x : SchedSlot) => x.used = 1 ∧ x.dayType = d ∧ x.hour.toNat * 60 + x.minute.toNat ≤ t.hour * 60 + t.minute
    (∀ i : Fin 20, reached c.schedule[i] →
      (∀ j : Fin 20, reached c.schedule[j] →
        c.schedule[j].hour.toNat * 60 + c.schedule[j].minute.toNat ≤ c.schedule[i].hour.toNat * 60 + c.schedule[i].minute.toNat) →
      (c.tariffAt t).val = c.schedule[i].tariff.toNat) ∧
    ((∀ j : Fin 20, ¬ reached c.schedule[j]) → (c.tariffAt t).val = c.defaultTariff.toNat)

/-! ### What every step keeps -/

/-- R73, R13, R17: from every state, not only from those that a run reaches, every step keeps exactly one bank OPEN with the other one
CLOSING exactly during a close, at most 32 queue entries, and the order of the tags; so no entry is tagged with a FREE bank and none
of the CLOSING bank stands behind one of the OPEN bank. -/
def Obligations.StepKeepsBanksAndTags : Prop :=
  (∀ s s' : State, s.banksInv → step s = .next s' → s'.banksInv) ∧
  (∀ s s' : State, s.samplesInv → step s = .next s' → s'.samplesInv) ∧
  ∀ s : State, s.banksInv → s.samplesInv → s.tagsOrdered

/-- R42: every step keeps the calendar at a real date and time with the weekday of its date and a phase below 32768. -/
def Obligations.StepKeepsTheCalendarReal : Prop :=
  ∀ s s' : State, s.calendarInv → step s = .next s' → s'.calendarInv

/-- R58, R132, R134, R135: every step keeps an active set that passes validation, and a staged set that passes while it is frozen. -/
def Obligations.StepKeepsTheConfigurationValid : Prop :=
  ∀ s s' : State, s.configInv → step s = .next s' → s'.configInv

/-- R97, R98, R107, Table 39: every step keeps the four values of the record queue in agreement with the lengths of its records, a
hold exactly while the read status is not NO_RECORD and then on a record, and the record memory in its canonical form. The lengths
are those that the model keeps apart from the memory (the model's choice, log 7). -/
def Obligations.StepKeepsTheRecordQueue : Prop :=
  (∀ s s' : State, s.queueInv → step s = .next s' → s'.queueInv) ∧
  ∀ s s' : State, s.memoryInv → step s = .next s' → s'.memoryInv

/-- The reset state meets every invariant of the four statements above. -/
def Obligations.ResetMeetsTheInvariants : Prop :=
  let s := State.reset
  s.banksInv ∧ s.samplesInv ∧ s.calendarInv ∧ s.configInv ∧ s.queueInv ∧ s.memoryInv

/-- R84, R118, R121, R150: over all commands: the totals change at CREDIT and at TOTALS_CLEAR alone, the demand entries at CREDIT and
at DEMAND_RESET alone (written or handed over), and the sequence number stays or goes up by one; a cold start and a loss of both
supplies apart. -/
def Obligations.OnlyCreditsAndClearsChangeTheTables : Prop :=
  ∀ (c : Instr) (s t : State), exec c s = .next t → c ≠ .supplyLoss → (∀ v, c ≠ .coldStart v) →
    (c ≠ .credit → (∀ a, c ≠ .totalsClear a) → (∀ a, ¬(c = .commandHandover ∧ s.main.cmd.waiting = some (.totalsClear, a))) →
      t.totals = s.totals) ∧
    (c ≠ .credit → (∀ a, c ≠ .demandReset a) → (∀ a, ¬(c = .commandHandover ∧ s.main.cmd.waiting = some (.demandReset, a))) →
      t.demand = s.demand) ∧
    (t.ic.nextSeq = s.ic.nextSeq ∨ t.ic.nextSeq = s.ic.nextSeq + 1)
end

