-- ==== Sys2Proof/Laws/State.lean ====
section
/-! SUPPORT. What each basic update leaves unchanged, field by field, and what it writes, so that no later proof unfolds a record update. -/

namespace Sys2Proof.Machine

@[simp] theorem State.setCause_pending (s : State) (c : Cause) : (s.setCause c).pending = s.pending := rfl
@[simp] theorem State.setCause_freeCount (s : State) (c : Cause) : (s.setCause c).freeCount = s.freeCount := rfl
@[simp] theorem State.setCause_oscRunning (s : State) (c : Cause) : (s.setCause c).oscRunning = s.oscRunning := rfl
@[simp] theorem State.setCause_csnHigh (s : State) (c : Cause) : (s.setCause c).csnHigh = s.csnHigh := rfl
@[simp] theorem State.setCause_monitor (s : State) (c : Cause) : (s.setCause c).monitor = s.monitor := rfl
@[simp] theorem State.setCause_cal (s : State) (c : Cause) : (s.setCause c).cal = s.cal := rfl
@[simp] theorem State.setCause_bankA (s : State) (c : Cause) : (s.setCause c).bankA = s.bankA := rfl
@[simp] theorem State.setCause_bankB (s : State) (c : Cause) : (s.setCause c).bankB = s.bankB := rfl
@[simp] theorem State.setCause_ic (s : State) (c : Cause) : (s.setCause c).ic = s.ic := rfl
@[simp] theorem State.setCause_cfg (s : State) (c : Cause) : (s.setCause c).cfg = s.cfg := rfl
@[simp] theorem State.setCause_queue (s : State) (c : Cause) : (s.setCause c).queue = s.queue := rfl
@[simp] theorem State.setCause_totals (s : State) (c : Cause) : (s.setCause c).totals = s.totals := rfl
@[simp] theorem State.setCause_demand (s : State) (c : Cause) : (s.setCause c).demand = s.demand := rfl
@[simp] theorem State.setCause_main (s : State) (c : Cause) : (s.setCause c).main = s.main := rfl

@[simp] theorem State.setCauseIf_pending (s : State) (p : Bool) (c : Cause) : (s.setCauseIf p c).pending = s.pending := by cases p <;> rfl
@[simp] theorem State.setCauseIf_freeCount (s : State) (p : Bool) (c : Cause) : (s.setCauseIf p c).freeCount = s.freeCount := by cases p <;> rfl
@[simp] theorem State.setCauseIf_oscRunning (s : State) (p : Bool) (c : Cause) : (s.setCauseIf p c).oscRunning = s.oscRunning := by cases p <;> rfl
@[simp] theorem State.setCauseIf_csnHigh (s : State) (p : Bool) (c : Cause) : (s.setCauseIf p c).csnHigh = s.csnHigh := by cases p <;> rfl
@[simp] theorem State.setCauseIf_monitor (s : State) (p : Bool) (c : Cause) : (s.setCauseIf p c).monitor = s.monitor := by cases p <;> rfl
@[simp] theorem State.setCauseIf_cal (s : State) (p : Bool) (c : Cause) : (s.setCauseIf p c).cal = s.cal := by cases p <;> rfl
@[simp] theorem State.setCauseIf_bankA (s : State) (p : Bool) (c : Cause) : (s.setCauseIf p c).bankA = s.bankA := by cases p <;> rfl
@[simp] theorem State.setCauseIf_bankB (s : State) (p : Bool) (c : Cause) : (s.setCauseIf p c).bankB = s.bankB := by cases p <;> rfl
@[simp] theorem State.setCauseIf_ic (s : State) (p : Bool) (c : Cause) : (s.setCauseIf p c).ic = s.ic := by cases p <;> rfl
@[simp] theorem State.setCauseIf_cfg (s : State) (p : Bool) (c : Cause) : (s.setCauseIf p c).cfg = s.cfg := by cases p <;> rfl
@[simp] theorem State.setCauseIf_queue (s : State) (p : Bool) (c : Cause) : (s.setCauseIf p c).queue = s.queue := by cases p <;> rfl
@[simp] theorem State.setCauseIf_totals (s : State) (p : Bool) (c : Cause) : (s.setCauseIf p c).totals = s.totals := by cases p <;> rfl
@[simp] theorem State.setCauseIf_demand (s : State) (p : Bool) (c : Cause) : (s.setCauseIf p c).demand = s.demand := by cases p <;> rfl
@[simp] theorem State.setCauseIf_main (s : State) (p : Bool) (c : Cause) : (s.setCauseIf p c).main = s.main := by cases p <;> rfl

@[simp] theorem State.setBank_pending (s : State) (t : Tag) (b : Bank) : (s.setBank t b).pending = s.pending := by cases t <;> rfl
@[simp] theorem State.setBank_freeCount (s : State) (t : Tag) (b : Bank) : (s.setBank t b).freeCount = s.freeCount := by cases t <;> rfl
@[simp] theorem State.setBank_oscRunning (s : State) (t : Tag) (b : Bank) : (s.setBank t b).oscRunning = s.oscRunning := by cases t <;> rfl
@[simp] theorem State.setBank_csnHigh (s : State) (t : Tag) (b : Bank) : (s.setBank t b).csnHigh = s.csnHigh := by cases t <;> rfl
@[simp] theorem State.setBank_monitor (s : State) (t : Tag) (b : Bank) : (s.setBank t b).monitor = s.monitor := by cases t <;> rfl
@[simp] theorem State.setBank_cal (s : State) (t : Tag) (b : Bank) : (s.setBank t b).cal = s.cal := by cases t <;> rfl
@[simp] theorem State.setBank_ic (s : State) (t : Tag) (b : Bank) : (s.setBank t b).ic = s.ic := by cases t <;> rfl
@[simp] theorem State.setBank_cfg (s : State) (t : Tag) (b : Bank) : (s.setBank t b).cfg = s.cfg := by cases t <;> rfl
@[simp] theorem State.setBank_queue (s : State) (t : Tag) (b : Bank) : (s.setBank t b).queue = s.queue := by cases t <;> rfl
@[simp] theorem State.setBank_totals (s : State) (t : Tag) (b : Bank) : (s.setBank t b).totals = s.totals := by cases t <;> rfl
@[simp] theorem State.setBank_demand (s : State) (t : Tag) (b : Bank) : (s.setBank t b).demand = s.demand := by cases t <;> rfl
@[simp] theorem State.setBank_events (s : State) (t : Tag) (b : Bank) : (s.setBank t b).events = s.events := by cases t <;> rfl
@[simp] theorem State.setBank_main (s : State) (t : Tag) (b : Bank) : (s.setBank t b).main = s.main := by cases t <;> rfl

@[simp] theorem State.modifyBank_pending (s : State) (t : Tag) (f : Bank → Bank) : (s.modifyBank t f).pending = s.pending := by cases t <;> rfl
@[simp] theorem State.modifyBank_freeCount (s : State) (t : Tag) (f : Bank → Bank) : (s.modifyBank t f).freeCount = s.freeCount := by cases t <;> rfl
@[simp] theorem State.modifyBank_oscRunning (s : State) (t : Tag) (f : Bank → Bank) : (s.modifyBank t f).oscRunning = s.oscRunning := by cases t <;> rfl
@[simp] theorem State.modifyBank_csnHigh (s : State) (t : Tag) (f : Bank → Bank) : (s.modifyBank t f).csnHigh = s.csnHigh := by cases t <;> rfl
@[simp] theorem State.modifyBank_monitor (s : State) (t : Tag) (f : Bank → Bank) : (s.modifyBank t f).monitor = s.monitor := by cases t <;> rfl
@[simp] theorem State.modifyBank_cal (s : State) (t : Tag) (f : Bank → Bank) : (s.modifyBank t f).cal = s.cal := by cases t <;> rfl
@[simp] theorem State.modifyBank_ic (s : State) (t : Tag) (f : Bank → Bank) : (s.modifyBank t f).ic = s.ic := by cases t <;> rfl
@[simp] theorem State.modifyBank_cfg (s : State) (t : Tag) (f : Bank → Bank) : (s.modifyBank t f).cfg = s.cfg := by cases t <;> rfl
@[simp] theorem State.modifyBank_queue (s : State) (t : Tag) (f : Bank → Bank) : (s.modifyBank t f).queue = s.queue := by cases t <;> rfl
@[simp] theorem State.modifyBank_totals (s : State) (t : Tag) (f : Bank → Bank) : (s.modifyBank t f).totals = s.totals := by cases t <;> rfl
@[simp] theorem State.modifyBank_demand (s : State) (t : Tag) (f : Bank → Bank) : (s.modifyBank t f).demand = s.demand := by cases t <;> rfl
@[simp] theorem State.modifyBank_events (s : State) (t : Tag) (f : Bank → Bank) : (s.modifyBank t f).events = s.events := by cases t <;> rfl
@[simp] theorem State.modifyBank_main (s : State) (t : Tag) (f : Bank → Bank) : (s.modifyBank t f).main = s.main := by cases t <;> rfl

@[simp] theorem State.modifyOpen_pending (s : State) (f : Bank → Bank) : (s.modifyOpen f).pending = s.pending := State.modifyBank_pending s _ f
@[simp] theorem State.modifyOpen_freeCount (s : State) (f : Bank → Bank) : (s.modifyOpen f).freeCount = s.freeCount := State.modifyBank_freeCount s _ f
@[simp] theorem State.modifyOpen_oscRunning (s : State) (f : Bank → Bank) : (s.modifyOpen f).oscRunning = s.oscRunning := State.modifyBank_oscRunning s _ f
@[simp] theorem State.modifyOpen_csnHigh (s : State) (f : Bank → Bank) : (s.modifyOpen f).csnHigh = s.csnHigh := State.modifyBank_csnHigh s _ f
@[simp] theorem State.modifyOpen_monitor (s : State) (f : Bank → Bank) : (s.modifyOpen f).monitor = s.monitor := State.modifyBank_monitor s _ f
@[simp] theorem State.modifyOpen_cal (s : State) (f : Bank → Bank) : (s.modifyOpen f).cal = s.cal := State.modifyBank_cal s _ f
@[simp] theorem State.modifyOpen_ic (s : State) (f : Bank → Bank) : (s.modifyOpen f).ic = s.ic := State.modifyBank_ic s _ f
@[simp] theorem State.modifyOpen_cfg (s : State) (f : Bank → Bank) : (s.modifyOpen f).cfg = s.cfg := State.modifyBank_cfg s _ f
@[simp] theorem State.modifyOpen_queue (s : State) (f : Bank → Bank) : (s.modifyOpen f).queue = s.queue := State.modifyBank_queue s _ f
@[simp] theorem State.modifyOpen_totals (s : State) (f : Bank → Bank) : (s.modifyOpen f).totals = s.totals := State.modifyBank_totals s _ f
@[simp] theorem State.modifyOpen_demand (s : State) (f : Bank → Bank) : (s.modifyOpen f).demand = s.demand := State.modifyBank_demand s _ f
@[simp] theorem State.modifyOpen_events (s : State) (f : Bank → Bank) : (s.modifyOpen f).events = s.events := State.modifyBank_events s _ f
@[simp] theorem State.modifyOpen_main (s : State) (f : Bank → Bank) : (s.modifyOpen f).main = s.main := State.modifyBank_main s _ f

@[simp] theorem State.modifyWin_pending (s : State) (f : Window → Window) : (s.modifyWin f).pending = s.pending := rfl
@[simp] theorem State.modifyWin_freeCount (s : State) (f : Window → Window) : (s.modifyWin f).freeCount = s.freeCount := rfl
@[simp] theorem State.modifyWin_oscRunning (s : State) (f : Window → Window) : (s.modifyWin f).oscRunning = s.oscRunning := rfl
@[simp] theorem State.modifyWin_csnHigh (s : State) (f : Window → Window) : (s.modifyWin f).csnHigh = s.csnHigh := rfl
@[simp] theorem State.modifyWin_monitor (s : State) (f : Window → Window) : (s.modifyWin f).monitor = s.monitor := rfl
@[simp] theorem State.modifyWin_cal (s : State) (f : Window → Window) : (s.modifyWin f).cal = s.cal := rfl
@[simp] theorem State.modifyWin_bankA (s : State) (f : Window → Window) : (s.modifyWin f).bankA = s.bankA := rfl
@[simp] theorem State.modifyWin_bankB (s : State) (f : Window → Window) : (s.modifyWin f).bankB = s.bankB := rfl
@[simp] theorem State.modifyWin_ic (s : State) (f : Window → Window) : (s.modifyWin f).ic = s.ic := rfl
@[simp] theorem State.modifyWin_cfg (s : State) (f : Window → Window) : (s.modifyWin f).cfg = s.cfg := rfl
@[simp] theorem State.modifyWin_queue (s : State) (f : Window → Window) : (s.modifyWin f).queue = s.queue := rfl
@[simp] theorem State.modifyWin_totals (s : State) (f : Window → Window) : (s.modifyWin f).totals = s.totals := rfl
@[simp] theorem State.modifyWin_demand (s : State) (f : Window → Window) : (s.modifyWin f).demand = s.demand := rfl
@[simp] theorem State.modifyWin_events (s : State) (f : Window → Window) : (s.modifyWin f).events = s.events := rfl

@[simp] theorem State.advance_pending (s : State) : (s.advance).pending = s.pending := rfl
@[simp] theorem State.advance_freeCount (s : State) : (s.advance).freeCount = s.freeCount := rfl
@[simp] theorem State.advance_oscRunning (s : State) : (s.advance).oscRunning = s.oscRunning := rfl
@[simp] theorem State.advance_csnHigh (s : State) : (s.advance).csnHigh = s.csnHigh := rfl
@[simp] theorem State.advance_monitor (s : State) : (s.advance).monitor = s.monitor := rfl
@[simp] theorem State.advance_cal (s : State) : (s.advance).cal = s.cal := rfl
@[simp] theorem State.advance_bankA (s : State) : (s.advance).bankA = s.bankA := rfl
@[simp] theorem State.advance_bankB (s : State) : (s.advance).bankB = s.bankB := rfl
@[simp] theorem State.advance_ic (s : State) : (s.advance).ic = s.ic := rfl
@[simp] theorem State.advance_cfg (s : State) : (s.advance).cfg = s.cfg := rfl
@[simp] theorem State.advance_queue (s : State) : (s.advance).queue = s.queue := rfl
@[simp] theorem State.advance_totals (s : State) : (s.advance).totals = s.totals := rfl
@[simp] theorem State.advance_demand (s : State) : (s.advance).demand = s.demand := rfl
@[simp] theorem State.advance_events (s : State) : (s.advance).events = s.events := rfl

@[simp] theorem State.clearLatch_pending (s : State) : (s.clearLatch).pending = s.pending := rfl
@[simp] theorem State.clearLatch_freeCount (s : State) : (s.clearLatch).freeCount = s.freeCount := rfl
@[simp] theorem State.clearLatch_oscRunning (s : State) : (s.clearLatch).oscRunning = s.oscRunning := rfl
@[simp] theorem State.clearLatch_csnHigh (s : State) : (s.clearLatch).csnHigh = s.csnHigh := rfl
@[simp] theorem State.clearLatch_monitor (s : State) : (s.clearLatch).monitor = s.monitor := rfl
@[simp] theorem State.clearLatch_cal (s : State) : (s.clearLatch).cal = s.cal := rfl
@[simp] theorem State.clearLatch_bankA (s : State) : (s.clearLatch).bankA = s.bankA := rfl
@[simp] theorem State.clearLatch_bankB (s : State) : (s.clearLatch).bankB = s.bankB := rfl
@[simp] theorem State.clearLatch_ic (s : State) : (s.clearLatch).ic = s.ic := rfl
@[simp] theorem State.clearLatch_cfg (s : State) : (s.clearLatch).cfg = s.cfg := rfl
@[simp] theorem State.clearLatch_queue (s : State) : (s.clearLatch).queue = s.queue := rfl
@[simp] theorem State.clearLatch_totals (s : State) : (s.clearLatch).totals = s.totals := rfl
@[simp] theorem State.clearLatch_demand (s : State) : (s.clearLatch).demand = s.demand := rfl
@[simp] theorem State.clearLatch_events (s : State) : (s.clearLatch).events = s.events := rfl

@[simp] theorem State.withLink_pending (s : State) (l : Link) : (s.withLink l).pending = s.pending := rfl
@[simp] theorem State.withLink_freeCount (s : State) (l : Link) : (s.withLink l).freeCount = s.freeCount := rfl
@[simp] theorem State.withLink_oscRunning (s : State) (l : Link) : (s.withLink l).oscRunning = s.oscRunning := rfl
@[simp] theorem State.withLink_csnHigh (s : State) (l : Link) : (s.withLink l).csnHigh = s.csnHigh := rfl
@[simp] theorem State.withLink_monitor (s : State) (l : Link) : (s.withLink l).monitor = s.monitor := rfl
@[simp] theorem State.withLink_cal (s : State) (l : Link) : (s.withLink l).cal = s.cal := rfl
@[simp] theorem State.withLink_bankA (s : State) (l : Link) : (s.withLink l).bankA = s.bankA := rfl
@[simp] theorem State.withLink_bankB (s : State) (l : Link) : (s.withLink l).bankB = s.bankB := rfl
@[simp] theorem State.withLink_ic (s : State) (l : Link) : (s.withLink l).ic = s.ic := rfl
@[simp] theorem State.withLink_cfg (s : State) (l : Link) : (s.withLink l).cfg = s.cfg := rfl
@[simp] theorem State.withLink_queue (s : State) (l : Link) : (s.withLink l).queue = s.queue := rfl
@[simp] theorem State.withLink_totals (s : State) (l : Link) : (s.withLink l).totals = s.totals := rfl
@[simp] theorem State.withLink_demand (s : State) (l : Link) : (s.withLink l).demand = s.demand := rfl
@[simp] theorem State.withLink_events (s : State) (l : Link) : (s.withLink l).events = s.events := rfl

@[simp] theorem State.withPulse_pending (s : State) (pin : EventPin) (p : Pulse) : (s.withPulse pin p).pending = s.pending := rfl
@[simp] theorem State.withPulse_freeCount (s : State) (pin : EventPin) (p : Pulse) : (s.withPulse pin p).freeCount = s.freeCount := rfl
@[simp] theorem State.withPulse_oscRunning (s : State) (pin : EventPin) (p : Pulse) : (s.withPulse pin p).oscRunning = s.oscRunning := rfl
@[simp] theorem State.withPulse_csnHigh (s : State) (pin : EventPin) (p : Pulse) : (s.withPulse pin p).csnHigh = s.csnHigh := rfl
@[simp] theorem State.withPulse_monitor (s : State) (pin : EventPin) (p : Pulse) : (s.withPulse pin p).monitor = s.monitor := rfl
@[simp] theorem State.withPulse_cal (s : State) (pin : EventPin) (p : Pulse) : (s.withPulse pin p).cal = s.cal := rfl
@[simp] theorem State.withPulse_bankA (s : State) (pin : EventPin) (p : Pulse) : (s.withPulse pin p).bankA = s.bankA := rfl
@[simp] theorem State.withPulse_bankB (s : State) (pin : EventPin) (p : Pulse) : (s.withPulse pin p).bankB = s.bankB := rfl
@[simp] theorem State.withPulse_ic (s : State) (pin : EventPin) (p : Pulse) : (s.withPulse pin p).ic = s.ic := rfl
@[simp] theorem State.withPulse_cfg (s : State) (pin : EventPin) (p : Pulse) : (s.withPulse pin p).cfg = s.cfg := rfl
@[simp] theorem State.withPulse_queue (s : State) (pin : EventPin) (p : Pulse) : (s.withPulse pin p).queue = s.queue := rfl
@[simp] theorem State.withPulse_totals (s : State) (pin : EventPin) (p : Pulse) : (s.withPulse pin p).totals = s.totals := rfl
@[simp] theorem State.withPulse_demand (s : State) (pin : EventPin) (p : Pulse) : (s.withPulse pin p).demand = s.demand := rfl
@[simp] theorem State.withPulse_main (s : State) (pin : EventPin) (p : Pulse) : (s.withPulse pin p).main = s.main := rfl

@[simp] theorem State.report_pending (s : State) (code : Byte) (r : CmdResult) : (s.report code r).pending = s.pending := rfl
@[simp] theorem State.report_freeCount (s : State) (code : Byte) (r : CmdResult) : (s.report code r).freeCount = s.freeCount := rfl
@[simp] theorem State.report_oscRunning (s : State) (code : Byte) (r : CmdResult) : (s.report code r).oscRunning = s.oscRunning := rfl
@[simp] theorem State.report_csnHigh (s : State) (code : Byte) (r : CmdResult) : (s.report code r).csnHigh = s.csnHigh := rfl
@[simp] theorem State.report_monitor (s : State) (code : Byte) (r : CmdResult) : (s.report code r).monitor = s.monitor := rfl
@[simp] theorem State.report_cal (s : State) (code : Byte) (r : CmdResult) : (s.report code r).cal = s.cal := rfl
@[simp] theorem State.report_bankA (s : State) (code : Byte) (r : CmdResult) : (s.report code r).bankA = s.bankA := rfl
@[simp] theorem State.report_bankB (s : State) (code : Byte) (r : CmdResult) : (s.report code r).bankB = s.bankB := rfl
@[simp] theorem State.report_ic (s : State) (code : Byte) (r : CmdResult) : (s.report code r).ic = s.ic := rfl
@[simp] theorem State.report_cfg (s : State) (code : Byte) (r : CmdResult) : (s.report code r).cfg = s.cfg := rfl
@[simp] theorem State.report_queue (s : State) (code : Byte) (r : CmdResult) : (s.report code r).queue = s.queue := rfl
@[simp] theorem State.report_totals (s : State) (code : Byte) (r : CmdResult) : (s.report code r).totals = s.totals := rfl
@[simp] theorem State.report_demand (s : State) (code : Byte) (r : CmdResult) : (s.report code r).demand = s.demand := rfl

@[simp] theorem State.complete_pending (s : State) (code : Byte) (r : CmdResult) : (s.complete code r).pending = s.pending := rfl
@[simp] theorem State.complete_freeCount (s : State) (code : Byte) (r : CmdResult) : (s.complete code r).freeCount = s.freeCount := rfl
@[simp] theorem State.complete_oscRunning (s : State) (code : Byte) (r : CmdResult) : (s.complete code r).oscRunning = s.oscRunning := rfl
@[simp] theorem State.complete_csnHigh (s : State) (code : Byte) (r : CmdResult) : (s.complete code r).csnHigh = s.csnHigh := rfl
@[simp] theorem State.complete_monitor (s : State) (code : Byte) (r : CmdResult) : (s.complete code r).monitor = s.monitor := rfl
@[simp] theorem State.complete_cal (s : State) (code : Byte) (r : CmdResult) : (s.complete code r).cal = s.cal := rfl
@[simp] theorem State.complete_bankA (s : State) (code : Byte) (r : CmdResult) : (s.complete code r).bankA = s.bankA := rfl
@[simp] theorem State.complete_bankB (s : State) (code : Byte) (r : CmdResult) : (s.complete code r).bankB = s.bankB := rfl
@[simp] theorem State.complete_ic (s : State) (code : Byte) (r : CmdResult) : (s.complete code r).ic = s.ic := rfl
@[simp] theorem State.complete_cfg (s : State) (code : Byte) (r : CmdResult) : (s.complete code r).cfg = s.cfg := rfl
@[simp] theorem State.complete_queue (s : State) (code : Byte) (r : CmdResult) : (s.complete code r).queue = s.queue := rfl
@[simp] theorem State.complete_totals (s : State) (code : Byte) (r : CmdResult) : (s.complete code r).totals = s.totals := rfl
@[simp] theorem State.complete_demand (s : State) (code : Byte) (r : CmdResult) : (s.complete code r).demand = s.demand := rfl

@[simp] theorem State.ignoredByte_pending (s : State) : (s.ignoredByte).pending = s.pending := rfl
@[simp] theorem State.ignoredByte_freeCount (s : State) : (s.ignoredByte).freeCount = s.freeCount := rfl
@[simp] theorem State.ignoredByte_oscRunning (s : State) : (s.ignoredByte).oscRunning = s.oscRunning := rfl
@[simp] theorem State.ignoredByte_csnHigh (s : State) : (s.ignoredByte).csnHigh = s.csnHigh := rfl
@[simp] theorem State.ignoredByte_monitor (s : State) : (s.ignoredByte).monitor = s.monitor := rfl
@[simp] theorem State.ignoredByte_cal (s : State) : (s.ignoredByte).cal = s.cal := rfl
@[simp] theorem State.ignoredByte_bankA (s : State) : (s.ignoredByte).bankA = s.bankA := rfl
@[simp] theorem State.ignoredByte_bankB (s : State) : (s.ignoredByte).bankB = s.bankB := rfl
@[simp] theorem State.ignoredByte_ic (s : State) : (s.ignoredByte).ic = s.ic := rfl
@[simp] theorem State.ignoredByte_cfg (s : State) : (s.ignoredByte).cfg = s.cfg := rfl
@[simp] theorem State.ignoredByte_queue (s : State) : (s.ignoredByte).queue = s.queue := rfl
@[simp] theorem State.ignoredByte_totals (s : State) : (s.ignoredByte).totals = s.totals := rfl
@[simp] theorem State.ignoredByte_demand (s : State) : (s.ignoredByte).demand = s.demand := rfl

@[simp] theorem State.validated_pending (s : State) : (s.validated).pending = s.pending := rfl
@[simp] theorem State.validated_freeCount (s : State) : (s.validated).freeCount = s.freeCount := rfl
@[simp] theorem State.validated_oscRunning (s : State) : (s.validated).oscRunning = s.oscRunning := rfl
@[simp] theorem State.validated_csnHigh (s : State) : (s.validated).csnHigh = s.csnHigh := rfl
@[simp] theorem State.validated_monitor (s : State) : (s.validated).monitor = s.monitor := rfl
@[simp] theorem State.validated_cal (s : State) : (s.validated).cal = s.cal := rfl
@[simp] theorem State.validated_bankA (s : State) : (s.validated).bankA = s.bankA := rfl
@[simp] theorem State.validated_bankB (s : State) : (s.validated).bankB = s.bankB := rfl
@[simp] theorem State.validated_ic (s : State) : (s.validated).ic = s.ic := rfl
@[simp] theorem State.validated_queue (s : State) : (s.validated).queue = s.queue := rfl
@[simp] theorem State.validated_totals (s : State) : (s.validated).totals = s.totals := rfl
@[simp] theorem State.validated_demand (s : State) : (s.validated).demand = s.demand := rfl
@[simp] theorem State.validated_events (s : State) : (s.validated).events = s.events := rfl
@[simp] theorem State.validated_main (s : State) : (s.validated).main = s.main := rfl

@[simp] theorem State.applyConfig_pending (s : State) : (s.applyConfig).pending = s.pending := rfl
@[simp] theorem State.applyConfig_freeCount (s : State) : (s.applyConfig).freeCount = s.freeCount := rfl
@[simp] theorem State.applyConfig_oscRunning (s : State) : (s.applyConfig).oscRunning = s.oscRunning := rfl
@[simp] theorem State.applyConfig_csnHigh (s : State) : (s.applyConfig).csnHigh = s.csnHigh := rfl
@[simp] theorem State.applyConfig_monitor (s : State) : (s.applyConfig).monitor = s.monitor := rfl
@[simp] theorem State.applyConfig_cal (s : State) : (s.applyConfig).cal = s.cal := rfl
@[simp] theorem State.applyConfig_bankA (s : State) : (s.applyConfig).bankA = s.bankA := rfl
@[simp] theorem State.applyConfig_bankB (s : State) : (s.applyConfig).bankB = s.bankB := rfl
@[simp] theorem State.applyConfig_ic (s : State) : (s.applyConfig).ic = s.ic := rfl
@[simp] theorem State.applyConfig_queue (s : State) : (s.applyConfig).queue = s.queue := rfl
@[simp] theorem State.applyConfig_totals (s : State) : (s.applyConfig).totals = s.totals := rfl
@[simp] theorem State.applyConfig_demand (s : State) : (s.applyConfig).demand = s.demand := rfl
@[simp] theorem State.applyConfig_main (s : State) : (s.applyConfig).main = s.main := rfl

@[simp] theorem State.deferBoundary_pending (s : State) (t : DateTime) (v : Bool) : (s.deferBoundary t v).pending = s.pending := rfl
@[simp] theorem State.deferBoundary_freeCount (s : State) (t : DateTime) (v : Bool) : (s.deferBoundary t v).freeCount = s.freeCount := rfl
@[simp] theorem State.deferBoundary_oscRunning (s : State) (t : DateTime) (v : Bool) : (s.deferBoundary t v).oscRunning = s.oscRunning := rfl
@[simp] theorem State.deferBoundary_csnHigh (s : State) (t : DateTime) (v : Bool) : (s.deferBoundary t v).csnHigh = s.csnHigh := rfl
@[simp] theorem State.deferBoundary_monitor (s : State) (t : DateTime) (v : Bool) : (s.deferBoundary t v).monitor = s.monitor := rfl
@[simp] theorem State.deferBoundary_cal (s : State) (t : DateTime) (v : Bool) : (s.deferBoundary t v).cal = s.cal := rfl
@[simp] theorem State.deferBoundary_bankA (s : State) (t : DateTime) (v : Bool) : (s.deferBoundary t v).bankA = s.bankA := rfl
@[simp] theorem State.deferBoundary_bankB (s : State) (t : DateTime) (v : Bool) : (s.deferBoundary t v).bankB = s.bankB := rfl
@[simp] theorem State.deferBoundary_cfg (s : State) (t : DateTime) (v : Bool) : (s.deferBoundary t v).cfg = s.cfg := rfl
@[simp] theorem State.deferBoundary_queue (s : State) (t : DateTime) (v : Bool) : (s.deferBoundary t v).queue = s.queue := rfl
@[simp] theorem State.deferBoundary_totals (s : State) (t : DateTime) (v : Bool) : (s.deferBoundary t v).totals = s.totals := rfl
@[simp] theorem State.deferBoundary_demand (s : State) (t : DateTime) (v : Bool) : (s.deferBoundary t v).demand = s.demand := rfl
@[simp] theorem State.deferBoundary_events (s : State) (t : DateTime) (v : Bool) : (s.deferBoundary t v).events = s.events := rfl
@[simp] theorem State.deferBoundary_main (s : State) (t : DateTime) (v : Bool) : (s.deferBoundary t v).main = s.main := rfl

@[simp] theorem State.countDropped_pending (s : State) (xs : List Sample) : (s.countDropped xs).pending = s.pending := rfl
@[simp] theorem State.countDropped_freeCount (s : State) (xs : List Sample) : (s.countDropped xs).freeCount = s.freeCount := rfl
@[simp] theorem State.countDropped_oscRunning (s : State) (xs : List Sample) : (s.countDropped xs).oscRunning = s.oscRunning := rfl
@[simp] theorem State.countDropped_csnHigh (s : State) (xs : List Sample) : (s.countDropped xs).csnHigh = s.csnHigh := rfl
@[simp] theorem State.countDropped_monitor (s : State) (xs : List Sample) : (s.countDropped xs).monitor = s.monitor := rfl
@[simp] theorem State.countDropped_cal (s : State) (xs : List Sample) : (s.countDropped xs).cal = s.cal := rfl
@[simp] theorem State.countDropped_ic (s : State) (xs : List Sample) : (s.countDropped xs).ic = s.ic := rfl
@[simp] theorem State.countDropped_cfg (s : State) (xs : List Sample) : (s.countDropped xs).cfg = s.cfg := rfl
@[simp] theorem State.countDropped_queue (s : State) (xs : List Sample) : (s.countDropped xs).queue = s.queue := rfl
@[simp] theorem State.countDropped_totals (s : State) (xs : List Sample) : (s.countDropped xs).totals = s.totals := rfl
@[simp] theorem State.countDropped_demand (s : State) (xs : List Sample) : (s.countDropped xs).demand = s.demand := rfl
@[simp] theorem State.countDropped_events (s : State) (xs : List Sample) : (s.countDropped xs).events = s.events := rfl
@[simp] theorem State.countDropped_main (s : State) (xs : List Sample) : (s.countDropped xs).main = s.main := rfl

@[simp] theorem State.buildStage_pending (s : State) : (s.buildStage).pending = s.pending := rfl
@[simp] theorem State.buildStage_freeCount (s : State) : (s.buildStage).freeCount = s.freeCount := rfl
@[simp] theorem State.buildStage_oscRunning (s : State) : (s.buildStage).oscRunning = s.oscRunning := rfl
@[simp] theorem State.buildStage_csnHigh (s : State) : (s.buildStage).csnHigh = s.csnHigh := rfl
@[simp] theorem State.buildStage_monitor (s : State) : (s.buildStage).monitor = s.monitor := rfl
@[simp] theorem State.buildStage_cal (s : State) : (s.buildStage).cal = s.cal := rfl
@[simp] theorem State.buildStage_bankA (s : State) : (s.buildStage).bankA = s.bankA := rfl
@[simp] theorem State.buildStage_bankB (s : State) : (s.buildStage).bankB = s.bankB := rfl
@[simp] theorem State.buildStage_cfg (s : State) : (s.buildStage).cfg = s.cfg := rfl
@[simp] theorem State.buildStage_queue (s : State) : (s.buildStage).queue = s.queue := rfl
@[simp] theorem State.buildStage_totals (s : State) : (s.buildStage).totals = s.totals := rfl
@[simp] theorem State.buildStage_demand (s : State) : (s.buildStage).demand = s.demand := rfl
@[simp] theorem State.buildStage_events (s : State) : (s.buildStage).events = s.events := rfl
@[simp] theorem State.buildStage_main (s : State) : (s.buildStage).main = s.main := rfl

@[simp] theorem State.setCause_events (s : State) (c : Cause) : (s.setCause c).events = s.events.set s.monitor.supply c := rfl

@[simp] theorem State.setCauseIf_true (s : State) (c : Cause) : s.setCauseIf true c = s.setCause c := rfl

@[simp] theorem State.setCauseIf_false (s : State) (c : Cause) : s.setCauseIf false c = s := rfl

@[simp] theorem Tag.other_other (t : Tag) : t.other.other = t := by cases t <;> rfl

@[simp] theorem Tag.other_ne (t : Tag) : t.other ≠ t := by cases t <;> decide

@[simp] theorem Tag.ne_other (t : Tag) : t ≠ t.other := by cases t <;> decide

theorem Tag.eq_or_other (t u : Tag) : t = u ∨ t = u.other := by cases t <;> cases u <;> simp [Tag.other]

@[simp] theorem State.bank_setBank (s : State) (t : Tag) (b : Bank) : (s.setBank t b).bank t = b := by cases t <;> rfl

@[simp] theorem State.bank_setBank_other (s : State) (t : Tag) (b : Bank) : (s.setBank t b).bank t.other = s.bank t.other := by
  cases t <;> rfl

@[simp] theorem State.bank_setBank_of_other (s : State) (t : Tag) (b : Bank) : (s.setBank t.other b).bank t = s.bank t := by
  cases t <;> rfl

@[simp] theorem State.bank_setCause (s : State) (c : Cause) (t : Tag) : (s.setCause c).bank t = s.bank t := by cases t <;> rfl

@[simp] theorem State.openTag_setCause (s : State) (c : Cause) : (s.setCause c).openTag = s.openTag := rfl

@[simp] theorem State.inMain_setCause (s : State) (c : Cause) : (s.setCause c).inMain = s.inMain := rfl

@[simp] theorem State.closeBusy_setCause (s : State) (c : Cause) : (s.setCause c).closeBusy = s.closeBusy := rfl

@[simp] theorem State.report_main (s : State) (code : Byte) (r : CmdResult) :
    (s.report code r).main = { s.main with cmd := { s.main.cmd with resultCode := code, result := r } } := rfl

@[simp] theorem State.report_events (s : State) (code : Byte) (r : CmdResult) :
    (s.report code r).events = s.events.set s.monitor.supply .cmdDone := rfl

@[simp] theorem State.complete_main (s : State) (code : Byte) (r : CmdResult) :
    (s.complete code r).main = { s.main with cmd := ⟨none, code, r⟩ } := rfl

@[simp] theorem State.complete_events (s : State) (code : Byte) (r : CmdResult) :
    (s.complete code r).events = s.events.set s.monitor.supply .cmdDone := rfl

@[simp] theorem State.modifyWin_main (s : State) (f : Window → Window) :
    (s.modifyWin f).main = { s.main with win := f s.main.win } := rfl

@[simp] theorem State.withLink_main (s : State) (l : Link) : (s.withLink l).main = { s.main with link := l } := rfl

end Sys2Proof.Machine
end

