-- ==== Sys2Proof/Laws/Causes.lean ====
section
/-! SUPPORT. The pending cause set: what a setting does to it and to the outputs (R156, R161, R163). -/

namespace Sys2Proof.Machine

theorem Cause.position_lt (c : Cause) : c.position < 12 := by cases c <;> decide

/-- The set that holds one cause holds that position alone. -/
theorem Cause.getLsbD_bit (c : Cause) (i : Nat) : c.bit.getLsbD i = decide (i = c.position) := by
  have h := c.position_lt
  simp only [Cause.bit, BitVec.getLsbD_shiftLeft, BitVec.getLsbD_one]
  by_cases hi : i = c.position
  · simp [hi, h]
  · simp [hi]
    omega

theorem Cause.position_inj {c d : Cause} (h : c.position = d.position) : c = d := by
  revert h; cases c <;> cases d <;> decide

/-- R156: after a setting the set holds that cause and what it held before. -/
theorem holdsCause_set (e : EventUnit) (x : SupplyState) (c d : Cause) :
    holdsCause (e.set x c).pending d = (holdsCause e.pending d || decide (d = c)) := by
  unfold EventUnit.set
  split
  · rename_i h
    by_cases hd : d = c
    · subst hd; simp [h]
    · simp [hd]
  · simp only [holdsCause, BitVec.getLsbD_or, Cause.getLsbD_bit]
    by_cases hd : d = c
    · simp [hd]
    · have : d.position ≠ c.position := fun h => hd (Cause.position_inj h)
      simp [hd, this]

/-- The pending set after a setting (R156). -/
theorem EventUnit.set_pending (e : EventUnit) (x : SupplyState) (c : Cause) : (e.set x c).pending = e.pending ||| c.bit := by
  unfold EventUnit.set
  split
  · rename_i h
    apply BitVec.eq_of_getLsbD_eq
    intro i _
    simp only [BitVec.getLsbD_or, Cause.getLsbD_bit]
    by_cases hi : i = c.position
    · subst hi; simpa [holdsCause] using h
    · simp [hi]
  · rfl

/-- R156: a setting of a pending cause changes nothing. -/
theorem EventUnit.set_of_pending (e : EventUnit) (x : SupplyState) (c : Cause) (h : holdsCause e.pending c = true) :
    e.set x c = e := by simp [EventUnit.set, h]

theorem EventUnit.set_set (e : EventUnit) (x : SupplyState) (c : Cause) : (e.set x c).set x c = e.set x c :=
  EventUnit.set_of_pending _ _ _ (by simp [holdsCause_set])

end Sys2Proof.Machine
end

