-- ==== Sys2Proof/Laws/Frames.lean ====
section
/-! SUPPORT. What each shared operation leaves unchanged, field by field. -/

namespace Sys2Proof.Machine

@[simp] theorem State.drainCheck_pending (s : State) : (s.drainCheck).pending = s.pending := by unfold State.drainCheck; split <;> rfl
@[simp] theorem State.drainCheck_freeCount (s : State) : (s.drainCheck).freeCount = s.freeCount := by unfold State.drainCheck; split <;> rfl
@[simp] theorem State.drainCheck_oscRunning (s : State) : (s.drainCheck).oscRunning = s.oscRunning := by unfold State.drainCheck; split <;> rfl
@[simp] theorem State.drainCheck_csnHigh (s : State) : (s.drainCheck).csnHigh = s.csnHigh := by unfold State.drainCheck; split <;> rfl
@[simp] theorem State.drainCheck_monitor (s : State) : (s.drainCheck).monitor = s.monitor := by unfold State.drainCheck; split <;> rfl
@[simp] theorem State.drainCheck_cal (s : State) : (s.drainCheck).cal = s.cal := by unfold State.drainCheck; split <;> rfl
@[simp] theorem State.drainCheck_bankA (s : State) : (s.drainCheck).bankA = s.bankA := by unfold State.drainCheck; split <;> rfl
@[simp] theorem State.drainCheck_bankB (s : State) : (s.drainCheck).bankB = s.bankB := by unfold State.drainCheck; split <;> rfl
@[simp] theorem State.drainCheck_cfg (s : State) : (s.drainCheck).cfg = s.cfg := by unfold State.drainCheck; split <;> rfl
@[simp] theorem State.drainCheck_queue (s : State) : (s.drainCheck).queue = s.queue := by unfold State.drainCheck; split <;> rfl
@[simp] theorem State.drainCheck_totals (s : State) : (s.drainCheck).totals = s.totals := by unfold State.drainCheck; split <;> rfl
@[simp] theorem State.drainCheck_demand (s : State) : (s.drainCheck).demand = s.demand := by unfold State.drainCheck; split <;> rfl
@[simp] theorem State.drainCheck_events (s : State) : (s.drainCheck).events = s.events := by unfold State.drainCheck; split <;> rfl
@[simp] theorem State.drainCheck_main (s : State) : (s.drainCheck).main = s.main := by unfold State.drainCheck; split <;> rfl

@[simp] theorem State.reject_pending (s : State) (c : Cause) : (s.reject c).pending = s.pending := by simp [State.reject]
@[simp] theorem State.reject_freeCount (s : State) (c : Cause) : (s.reject c).freeCount = s.freeCount := by simp [State.reject]
@[simp] theorem State.reject_oscRunning (s : State) (c : Cause) : (s.reject c).oscRunning = s.oscRunning := by simp [State.reject]
@[simp] theorem State.reject_csnHigh (s : State) (c : Cause) : (s.reject c).csnHigh = s.csnHigh := by simp [State.reject]
@[simp] theorem State.reject_monitor (s : State) (c : Cause) : (s.reject c).monitor = s.monitor := by simp [State.reject]
@[simp] theorem State.reject_cal (s : State) (c : Cause) : (s.reject c).cal = s.cal := by simp [State.reject]
@[simp] theorem State.reject_ic (s : State) (c : Cause) : (s.reject c).ic = s.ic := by simp [State.reject]
@[simp] theorem State.reject_cfg (s : State) (c : Cause) : (s.reject c).cfg = s.cfg := by simp [State.reject]
@[simp] theorem State.reject_queue (s : State) (c : Cause) : (s.reject c).queue = s.queue := by simp [State.reject]
@[simp] theorem State.reject_totals (s : State) (c : Cause) : (s.reject c).totals = s.totals := by simp [State.reject]
@[simp] theorem State.reject_demand (s : State) (c : Cause) : (s.reject c).demand = s.demand := by simp [State.reject]
@[simp] theorem State.reject_main (s : State) (c : Cause) : (s.reject c).main = s.main := by simp [State.reject]

@[simp] theorem State.arrive_pending (s : State) (ch : Fin 6) (v : BitVec 24) : (s.arrive ch v).pending = s.pending := by unfold State.arrive; split <;> simp
@[simp] theorem State.arrive_freeCount (s : State) (ch : Fin 6) (v : BitVec 24) : (s.arrive ch v).freeCount = s.freeCount := by unfold State.arrive; split <;> simp
@[simp] theorem State.arrive_oscRunning (s : State) (ch : Fin 6) (v : BitVec 24) : (s.arrive ch v).oscRunning = s.oscRunning := by unfold State.arrive; split <;> simp
@[simp] theorem State.arrive_csnHigh (s : State) (ch : Fin 6) (v : BitVec 24) : (s.arrive ch v).csnHigh = s.csnHigh := by unfold State.arrive; split <;> simp
@[simp] theorem State.arrive_monitor (s : State) (ch : Fin 6) (v : BitVec 24) : (s.arrive ch v).monitor = s.monitor := by unfold State.arrive; split <;> simp
@[simp] theorem State.arrive_cal (s : State) (ch : Fin 6) (v : BitVec 24) : (s.arrive ch v).cal = s.cal := by unfold State.arrive; split <;> simp
@[simp] theorem State.arrive_ic (s : State) (ch : Fin 6) (v : BitVec 24) : (s.arrive ch v).ic = s.ic := by unfold State.arrive; split <;> simp
@[simp] theorem State.arrive_cfg (s : State) (ch : Fin 6) (v : BitVec 24) : (s.arrive ch v).cfg = s.cfg := by unfold State.arrive; split <;> simp
@[simp] theorem State.arrive_queue (s : State) (ch : Fin 6) (v : BitVec 24) : (s.arrive ch v).queue = s.queue := by unfold State.arrive; split <;> simp
@[simp] theorem State.arrive_totals (s : State) (ch : Fin 6) (v : BitVec 24) : (s.arrive ch v).totals = s.totals := by unfold State.arrive; split <;> simp
@[simp] theorem State.arrive_demand (s : State) (ch : Fin 6) (v : BitVec 24) : (s.arrive ch v).demand = s.demand := by unfold State.arrive; split <;> simp

@[simp] theorem State.intake_pending (s : State) (host : Bool) (n : Nat) (v : BitVec 24) (c : Cause) : (s.intake host n v c).pending = s.pending := by unfold State.intake; dsimp only; (repeat' split) <;> simp
@[simp] theorem State.intake_freeCount (s : State) (host : Bool) (n : Nat) (v : BitVec 24) (c : Cause) : (s.intake host n v c).freeCount = s.freeCount := by unfold State.intake; dsimp only; (repeat' split) <;> simp
@[simp] theorem State.intake_oscRunning (s : State) (host : Bool) (n : Nat) (v : BitVec 24) (c : Cause) : (s.intake host n v c).oscRunning = s.oscRunning := by unfold State.intake; dsimp only; (repeat' split) <;> simp
@[simp] theorem State.intake_csnHigh (s : State) (host : Bool) (n : Nat) (v : BitVec 24) (c : Cause) : (s.intake host n v c).csnHigh = s.csnHigh := by unfold State.intake; dsimp only; (repeat' split) <;> simp
@[simp] theorem State.intake_monitor (s : State) (host : Bool) (n : Nat) (v : BitVec 24) (c : Cause) : (s.intake host n v c).monitor = s.monitor := by unfold State.intake; dsimp only; (repeat' split) <;> simp
@[simp] theorem State.intake_cal (s : State) (host : Bool) (n : Nat) (v : BitVec 24) (c : Cause) : (s.intake host n v c).cal = s.cal := by unfold State.intake; dsimp only; (repeat' split) <;> simp
@[simp] theorem State.intake_ic (s : State) (host : Bool) (n : Nat) (v : BitVec 24) (c : Cause) : (s.intake host n v c).ic = s.ic := by unfold State.intake; dsimp only; (repeat' split) <;> simp
@[simp] theorem State.intake_cfg (s : State) (host : Bool) (n : Nat) (v : BitVec 24) (c : Cause) : (s.intake host n v c).cfg = s.cfg := by unfold State.intake; dsimp only; (repeat' split) <;> simp
@[simp] theorem State.intake_queue (s : State) (host : Bool) (n : Nat) (v : BitVec 24) (c : Cause) : (s.intake host n v c).queue = s.queue := by unfold State.intake; dsimp only; (repeat' split) <;> simp
@[simp] theorem State.intake_totals (s : State) (host : Bool) (n : Nat) (v : BitVec 24) (c : Cause) : (s.intake host n v c).totals = s.totals := by unfold State.intake; dsimp only; (repeat' split) <;> simp
@[simp] theorem State.intake_demand (s : State) (host : Bool) (n : Nat) (v : BitVec 24) (c : Cause) : (s.intake host n v c).demand = s.demand := by unfold State.intake; dsimp only; (repeat' split) <;> simp

@[simp] theorem State.checkSequence_pending (s : State) (r : BitVec 3) : (s.checkSequence r).pending = s.pending := by unfold State.checkSequence; dsimp only; split <;> simp
@[simp] theorem State.checkSequence_freeCount (s : State) (r : BitVec 3) : (s.checkSequence r).freeCount = s.freeCount := by unfold State.checkSequence; dsimp only; split <;> simp
@[simp] theorem State.checkSequence_oscRunning (s : State) (r : BitVec 3) : (s.checkSequence r).oscRunning = s.oscRunning := by unfold State.checkSequence; dsimp only; split <;> simp
@[simp] theorem State.checkSequence_csnHigh (s : State) (r : BitVec 3) : (s.checkSequence r).csnHigh = s.csnHigh := by unfold State.checkSequence; dsimp only; split <;> simp
@[simp] theorem State.checkSequence_monitor (s : State) (r : BitVec 3) : (s.checkSequence r).monitor = s.monitor := by unfold State.checkSequence; dsimp only; split <;> simp
@[simp] theorem State.checkSequence_cal (s : State) (r : BitVec 3) : (s.checkSequence r).cal = s.cal := by unfold State.checkSequence; dsimp only; split <;> simp
@[simp] theorem State.checkSequence_ic (s : State) (r : BitVec 3) : (s.checkSequence r).ic = s.ic := by unfold State.checkSequence; dsimp only; split <;> simp
@[simp] theorem State.checkSequence_cfg (s : State) (r : BitVec 3) : (s.checkSequence r).cfg = s.cfg := by unfold State.checkSequence; dsimp only; split <;> simp
@[simp] theorem State.checkSequence_queue (s : State) (r : BitVec 3) : (s.checkSequence r).queue = s.queue := by unfold State.checkSequence; dsimp only; split <;> simp
@[simp] theorem State.checkSequence_totals (s : State) (r : BitVec 3) : (s.checkSequence r).totals = s.totals := by unfold State.checkSequence; dsimp only; split <;> simp
@[simp] theorem State.checkSequence_demand (s : State) (r : BitVec 3) : (s.checkSequence r).demand = s.demand := by unfold State.checkSequence; dsimp only; split <;> simp

@[simp] theorem State.decideFrame_pending (s : State) (w : Word) : (s.decideFrame w).pending = s.pending := by unfold State.decideFrame; split <;> simp
@[simp] theorem State.decideFrame_freeCount (s : State) (w : Word) : (s.decideFrame w).freeCount = s.freeCount := by unfold State.decideFrame; split <;> simp
@[simp] theorem State.decideFrame_oscRunning (s : State) (w : Word) : (s.decideFrame w).oscRunning = s.oscRunning := by unfold State.decideFrame; split <;> simp
@[simp] theorem State.decideFrame_csnHigh (s : State) (w : Word) : (s.decideFrame w).csnHigh = s.csnHigh := by unfold State.decideFrame; split <;> simp
@[simp] theorem State.decideFrame_monitor (s : State) (w : Word) : (s.decideFrame w).monitor = s.monitor := by unfold State.decideFrame; split <;> simp
@[simp] theorem State.decideFrame_cal (s : State) (w : Word) : (s.decideFrame w).cal = s.cal := by unfold State.decideFrame; split <;> simp
@[simp] theorem State.decideFrame_ic (s : State) (w : Word) : (s.decideFrame w).ic = s.ic := by unfold State.decideFrame; split <;> simp
@[simp] theorem State.decideFrame_cfg (s : State) (w : Word) : (s.decideFrame w).cfg = s.cfg := by unfold State.decideFrame; split <;> simp
@[simp] theorem State.decideFrame_queue (s : State) (w : Word) : (s.decideFrame w).queue = s.queue := by unfold State.decideFrame; split <;> simp
@[simp] theorem State.decideFrame_totals (s : State) (w : Word) : (s.decideFrame w).totals = s.totals := by unfold State.decideFrame; split <;> simp
@[simp] theorem State.decideFrame_demand (s : State) (w : Word) : (s.decideFrame w).demand = s.demand := by unfold State.decideFrame; split <;> simp

@[simp] theorem State.discardSamples_pending (s : State) : (s.discardSamples).pending = s.pending := by simp [State.discardSamples]
@[simp] theorem State.discardSamples_freeCount (s : State) : (s.discardSamples).freeCount = s.freeCount := by simp [State.discardSamples]
@[simp] theorem State.discardSamples_oscRunning (s : State) : (s.discardSamples).oscRunning = s.oscRunning := by simp [State.discardSamples]
@[simp] theorem State.discardSamples_csnHigh (s : State) : (s.discardSamples).csnHigh = s.csnHigh := by simp [State.discardSamples]
@[simp] theorem State.discardSamples_monitor (s : State) : (s.discardSamples).monitor = s.monitor := by simp [State.discardSamples]
@[simp] theorem State.discardSamples_cal (s : State) : (s.discardSamples).cal = s.cal := by simp [State.discardSamples]
@[simp] theorem State.discardSamples_cfg (s : State) : (s.discardSamples).cfg = s.cfg := by simp [State.discardSamples]
@[simp] theorem State.discardSamples_queue (s : State) : (s.discardSamples).queue = s.queue := by simp [State.discardSamples]
@[simp] theorem State.discardSamples_totals (s : State) : (s.discardSamples).totals = s.totals := by simp [State.discardSamples]
@[simp] theorem State.discardSamples_demand (s : State) : (s.discardSamples).demand = s.demand := by simp [State.discardSamples]

@[simp] theorem State.accumulate_pending (s : State) (x : Sample) : (s.accumulate x).pending = s.pending := by unfold State.accumulate; dsimp only; split <;> simp
@[simp] theorem State.accumulate_freeCount (s : State) (x : Sample) : (s.accumulate x).freeCount = s.freeCount := by unfold State.accumulate; dsimp only; split <;> simp
@[simp] theorem State.accumulate_oscRunning (s : State) (x : Sample) : (s.accumulate x).oscRunning = s.oscRunning := by unfold State.accumulate; dsimp only; split <;> simp
@[simp] theorem State.accumulate_csnHigh (s : State) (x : Sample) : (s.accumulate x).csnHigh = s.csnHigh := by unfold State.accumulate; dsimp only; split <;> simp
@[simp] theorem State.accumulate_monitor (s : State) (x : Sample) : (s.accumulate x).monitor = s.monitor := by unfold State.accumulate; dsimp only; split <;> simp
@[simp] theorem State.accumulate_cal (s : State) (x : Sample) : (s.accumulate x).cal = s.cal := by unfold State.accumulate; dsimp only; split <;> simp
@[simp] theorem State.accumulate_ic (s : State) (x : Sample) : (s.accumulate x).ic = s.ic := by unfold State.accumulate; dsimp only; split <;> simp
@[simp] theorem State.accumulate_cfg (s : State) (x : Sample) : (s.accumulate x).cfg = s.cfg := by unfold State.accumulate; dsimp only; split <;> simp
@[simp] theorem State.accumulate_queue (s : State) (x : Sample) : (s.accumulate x).queue = s.queue := by unfold State.accumulate; dsimp only; split <;> simp
@[simp] theorem State.accumulate_totals (s : State) (x : Sample) : (s.accumulate x).totals = s.totals := by unfold State.accumulate; dsimp only; split <;> simp
@[simp] theorem State.accumulate_demand (s : State) (x : Sample) : (s.accumulate x).demand = s.demand := by unfold State.accumulate; dsimp only; split <;> simp

@[simp] theorem State.opening_pending (s : State) (k : Trigger) (t : DateTime) (v : Bool) (tag : Tag) : (s.opening k t v tag).pending = s.pending := by unfold State.opening; dsimp only; split <;> split <;> simp
@[simp] theorem State.opening_freeCount (s : State) (k : Trigger) (t : DateTime) (v : Bool) (tag : Tag) : (s.opening k t v tag).freeCount = s.freeCount := by unfold State.opening; dsimp only; split <;> split <;> simp
@[simp] theorem State.opening_oscRunning (s : State) (k : Trigger) (t : DateTime) (v : Bool) (tag : Tag) : (s.opening k t v tag).oscRunning = s.oscRunning := by unfold State.opening; dsimp only; split <;> split <;> simp
@[simp] theorem State.opening_csnHigh (s : State) (k : Trigger) (t : DateTime) (v : Bool) (tag : Tag) : (s.opening k t v tag).csnHigh = s.csnHigh := by unfold State.opening; dsimp only; split <;> split <;> simp
@[simp] theorem State.opening_monitor (s : State) (k : Trigger) (t : DateTime) (v : Bool) (tag : Tag) : (s.opening k t v tag).monitor = s.monitor := by unfold State.opening; dsimp only; split <;> split <;> simp
@[simp] theorem State.opening_cal (s : State) (k : Trigger) (t : DateTime) (v : Bool) (tag : Tag) : (s.opening k t v tag).cal = s.cal := by unfold State.opening; dsimp only; split <;> split <;> simp
@[simp] theorem State.opening_ic (s : State) (k : Trigger) (t : DateTime) (v : Bool) (tag : Tag) : (s.opening k t v tag).ic = s.ic := by unfold State.opening; dsimp only; split <;> split <;> simp
@[simp] theorem State.opening_queue (s : State) (k : Trigger) (t : DateTime) (v : Bool) (tag : Tag) : (s.opening k t v tag).queue = s.queue := by unfold State.opening; dsimp only; split <;> split <;> simp
@[simp] theorem State.opening_totals (s : State) (k : Trigger) (t : DateTime) (v : Bool) (tag : Tag) : (s.opening k t v tag).totals = s.totals := by unfold State.opening; dsimp only; split <;> split <;> simp
@[simp] theorem State.opening_demand (s : State) (k : Trigger) (t : DateTime) (v : Bool) (tag : Tag) : (s.opening k t v tag).demand = s.demand := by unfold State.opening; dsimp only; split <;> split <;> simp

@[simp] theorem State.triggerClose_pending (s : State) (k : Trigger) (t : DateTime) (v : Bool) : (s.triggerClose k t v).pending = s.pending := by simp [State.triggerClose]
@[simp] theorem State.triggerClose_freeCount (s : State) (k : Trigger) (t : DateTime) (v : Bool) : (s.triggerClose k t v).freeCount = s.freeCount := by simp [State.triggerClose]
@[simp] theorem State.triggerClose_oscRunning (s : State) (k : Trigger) (t : DateTime) (v : Bool) : (s.triggerClose k t v).oscRunning = s.oscRunning := by simp [State.triggerClose]
@[simp] theorem State.triggerClose_csnHigh (s : State) (k : Trigger) (t : DateTime) (v : Bool) : (s.triggerClose k t v).csnHigh = s.csnHigh := by simp [State.triggerClose]
@[simp] theorem State.triggerClose_monitor (s : State) (k : Trigger) (t : DateTime) (v : Bool) : (s.triggerClose k t v).monitor = s.monitor := by simp [State.triggerClose]
@[simp] theorem State.triggerClose_cal (s : State) (k : Trigger) (t : DateTime) (v : Bool) : (s.triggerClose k t v).cal = s.cal := by simp [State.triggerClose]
@[simp] theorem State.triggerClose_queue (s : State) (k : Trigger) (t : DateTime) (v : Bool) : (s.triggerClose k t v).queue = s.queue := by simp [State.triggerClose]
@[simp] theorem State.triggerClose_totals (s : State) (k : Trigger) (t : DateTime) (v : Bool) : (s.triggerClose k t v).totals = s.totals := by simp [State.triggerClose]
@[simp] theorem State.triggerClose_demand (s : State) (k : Trigger) (t : DateTime) (v : Bool) : (s.triggerClose k t v).demand = s.demand := by simp [State.triggerClose]

@[simp] theorem State.missInterval_pending (s : State) (t : DateTime) (v : Bool) : (s.missInterval t v).pending = s.pending := by simp [State.missInterval]
@[simp] theorem State.missInterval_freeCount (s : State) (t : DateTime) (v : Bool) : (s.missInterval t v).freeCount = s.freeCount := by simp [State.missInterval]
@[simp] theorem State.missInterval_oscRunning (s : State) (t : DateTime) (v : Bool) : (s.missInterval t v).oscRunning = s.oscRunning := by simp [State.missInterval]
@[simp] theorem State.missInterval_csnHigh (s : State) (t : DateTime) (v : Bool) : (s.missInterval t v).csnHigh = s.csnHigh := by simp [State.missInterval]
@[simp] theorem State.missInterval_monitor (s : State) (t : DateTime) (v : Bool) : (s.missInterval t v).monitor = s.monitor := by simp [State.missInterval]
@[simp] theorem State.missInterval_cal (s : State) (t : DateTime) (v : Bool) : (s.missInterval t v).cal = s.cal := by simp [State.missInterval]
@[simp] theorem State.missInterval_queue (s : State) (t : DateTime) (v : Bool) : (s.missInterval t v).queue = s.queue := by simp [State.missInterval]
@[simp] theorem State.missInterval_totals (s : State) (t : DateTime) (v : Bool) : (s.missInterval t v).totals = s.totals := by simp [State.missInterval]
@[simp] theorem State.missInterval_demand (s : State) (t : DateTime) (v : Bool) : (s.missInterval t v).demand = s.demand := by simp [State.missInterval]

@[simp] theorem State.actOnBoundary_pending (s : State) (t : DateTime) (v : Bool) (x : SupplyState) (f : BackupBoundary) : (s.actOnBoundary t v x f).pending = s.pending := by unfold State.actOnBoundary; split <;> simp
@[simp] theorem State.actOnBoundary_freeCount (s : State) (t : DateTime) (v : Bool) (x : SupplyState) (f : BackupBoundary) : (s.actOnBoundary t v x f).freeCount = s.freeCount := by unfold State.actOnBoundary; split <;> simp
@[simp] theorem State.actOnBoundary_oscRunning (s : State) (t : DateTime) (v : Bool) (x : SupplyState) (f : BackupBoundary) : (s.actOnBoundary t v x f).oscRunning = s.oscRunning := by unfold State.actOnBoundary; split <;> simp
@[simp] theorem State.actOnBoundary_csnHigh (s : State) (t : DateTime) (v : Bool) (x : SupplyState) (f : BackupBoundary) : (s.actOnBoundary t v x f).csnHigh = s.csnHigh := by unfold State.actOnBoundary; split <;> simp
@[simp] theorem State.actOnBoundary_monitor (s : State) (t : DateTime) (v : Bool) (x : SupplyState) (f : BackupBoundary) : (s.actOnBoundary t v x f).monitor = s.monitor := by unfold State.actOnBoundary; split <;> simp
@[simp] theorem State.actOnBoundary_cal (s : State) (t : DateTime) (v : Bool) (x : SupplyState) (f : BackupBoundary) : (s.actOnBoundary t v x f).cal = s.cal := by unfold State.actOnBoundary; split <;> simp
@[simp] theorem State.actOnBoundary_queue (s : State) (t : DateTime) (v : Bool) (x : SupplyState) (f : BackupBoundary) : (s.actOnBoundary t v x f).queue = s.queue := by unfold State.actOnBoundary; split <;> simp
@[simp] theorem State.actOnBoundary_totals (s : State) (t : DateTime) (v : Bool) (x : SupplyState) (f : BackupBoundary) : (s.actOnBoundary t v x f).totals = s.totals := by unfold State.actOnBoundary; split <;> simp
@[simp] theorem State.actOnBoundary_demand (s : State) (t : DateTime) (v : Bool) (x : SupplyState) (f : BackupBoundary) : (s.actOnBoundary t v x f).demand = s.demand := by unfold State.actOnBoundary; split <;> simp

@[simp] theorem State.boundary_pending (s : State) (t : DateTime) (v : Bool) : (s.boundary t v).pending = s.pending := by unfold State.boundary; split <;> simp
@[simp] theorem State.boundary_freeCount (s : State) (t : DateTime) (v : Bool) : (s.boundary t v).freeCount = s.freeCount := by unfold State.boundary; split <;> simp
@[simp] theorem State.boundary_oscRunning (s : State) (t : DateTime) (v : Bool) : (s.boundary t v).oscRunning = s.oscRunning := by unfold State.boundary; split <;> simp
@[simp] theorem State.boundary_csnHigh (s : State) (t : DateTime) (v : Bool) : (s.boundary t v).csnHigh = s.csnHigh := by unfold State.boundary; split <;> simp
@[simp] theorem State.boundary_monitor (s : State) (t : DateTime) (v : Bool) : (s.boundary t v).monitor = s.monitor := by unfold State.boundary; split <;> simp
@[simp] theorem State.boundary_cal (s : State) (t : DateTime) (v : Bool) : (s.boundary t v).cal = s.cal := by unfold State.boundary; split <;> simp
@[simp] theorem State.boundary_queue (s : State) (t : DateTime) (v : Bool) : (s.boundary t v).queue = s.queue := by unfold State.boundary; split <;> simp
@[simp] theorem State.boundary_totals (s : State) (t : DateTime) (v : Bool) : (s.boundary t v).totals = s.totals := by unfold State.boundary; split <;> simp
@[simp] theorem State.boundary_demand (s : State) (t : DateTime) (v : Bool) : (s.boundary t v).demand = s.demand := by unfold State.boundary; split <;> simp

@[simp] theorem State.offerRecord_pending (s : State) (r : Record) : (s.offerRecord r).pending = s.pending := by simp [State.offerRecord]
@[simp] theorem State.offerRecord_freeCount (s : State) (r : Record) : (s.offerRecord r).freeCount = s.freeCount := by simp [State.offerRecord]
@[simp] theorem State.offerRecord_oscRunning (s : State) (r : Record) : (s.offerRecord r).oscRunning = s.oscRunning := by simp [State.offerRecord]
@[simp] theorem State.offerRecord_csnHigh (s : State) (r : Record) : (s.offerRecord r).csnHigh = s.csnHigh := by simp [State.offerRecord]
@[simp] theorem State.offerRecord_monitor (s : State) (r : Record) : (s.offerRecord r).monitor = s.monitor := by simp [State.offerRecord]
@[simp] theorem State.offerRecord_cal (s : State) (r : Record) : (s.offerRecord r).cal = s.cal := by simp [State.offerRecord]
@[simp] theorem State.offerRecord_bankA (s : State) (r : Record) : (s.offerRecord r).bankA = s.bankA := by simp [State.offerRecord]
@[simp] theorem State.offerRecord_bankB (s : State) (r : Record) : (s.offerRecord r).bankB = s.bankB := by simp [State.offerRecord]
@[simp] theorem State.offerRecord_ic (s : State) (r : Record) : (s.offerRecord r).ic = s.ic := by simp [State.offerRecord]
@[simp] theorem State.offerRecord_cfg (s : State) (r : Record) : (s.offerRecord r).cfg = s.cfg := by simp [State.offerRecord]
@[simp] theorem State.offerRecord_totals (s : State) (r : Record) : (s.offerRecord r).totals = s.totals := by simp [State.offerRecord]
@[simp] theorem State.offerRecord_demand (s : State) (r : Record) : (s.offerRecord r).demand = s.demand := by simp [State.offerRecord]
@[simp] theorem State.offerRecord_main (s : State) (r : Record) : (s.offerRecord r).main = s.main := by simp [State.offerRecord]

@[simp] theorem State.buildGap_pending (s : State) : (s.buildGap).pending = s.pending := by unfold State.buildGap; split <;> simp
@[simp] theorem State.buildGap_freeCount (s : State) : (s.buildGap).freeCount = s.freeCount := by unfold State.buildGap; split <;> simp
@[simp] theorem State.buildGap_oscRunning (s : State) : (s.buildGap).oscRunning = s.oscRunning := by unfold State.buildGap; split <;> simp
@[simp] theorem State.buildGap_csnHigh (s : State) : (s.buildGap).csnHigh = s.csnHigh := by unfold State.buildGap; split <;> simp
@[simp] theorem State.buildGap_monitor (s : State) : (s.buildGap).monitor = s.monitor := by unfold State.buildGap; split <;> simp
@[simp] theorem State.buildGap_cal (s : State) : (s.buildGap).cal = s.cal := by unfold State.buildGap; split <;> simp
@[simp] theorem State.buildGap_bankA (s : State) : (s.buildGap).bankA = s.bankA := by unfold State.buildGap; split <;> simp
@[simp] theorem State.buildGap_bankB (s : State) : (s.buildGap).bankB = s.bankB := by unfold State.buildGap; split <;> simp
@[simp] theorem State.buildGap_cfg (s : State) : (s.buildGap).cfg = s.cfg := by unfold State.buildGap; split <;> simp
@[simp] theorem State.buildGap_totals (s : State) : (s.buildGap).totals = s.totals := by unfold State.buildGap; split <;> simp
@[simp] theorem State.buildGap_demand (s : State) : (s.buildGap).demand = s.demand := by unfold State.buildGap; split <;> simp
@[simp] theorem State.buildGap_main (s : State) : (s.buildGap).main = s.main := by unfold State.buildGap; split <;> simp

@[simp] theorem State.buildDueGap_pending (s : State) : (s.buildDueGap).pending = s.pending := by unfold State.buildDueGap; split <;> simp
@[simp] theorem State.buildDueGap_freeCount (s : State) : (s.buildDueGap).freeCount = s.freeCount := by unfold State.buildDueGap; split <;> simp
@[simp] theorem State.buildDueGap_oscRunning (s : State) : (s.buildDueGap).oscRunning = s.oscRunning := by unfold State.buildDueGap; split <;> simp
@[simp] theorem State.buildDueGap_csnHigh (s : State) : (s.buildDueGap).csnHigh = s.csnHigh := by unfold State.buildDueGap; split <;> simp
@[simp] theorem State.buildDueGap_monitor (s : State) : (s.buildDueGap).monitor = s.monitor := by unfold State.buildDueGap; split <;> simp
@[simp] theorem State.buildDueGap_cal (s : State) : (s.buildDueGap).cal = s.cal := by unfold State.buildDueGap; split <;> simp
@[simp] theorem State.buildDueGap_bankA (s : State) : (s.buildDueGap).bankA = s.bankA := by unfold State.buildDueGap; split <;> simp
@[simp] theorem State.buildDueGap_bankB (s : State) : (s.buildDueGap).bankB = s.bankB := by unfold State.buildDueGap; split <;> simp
@[simp] theorem State.buildDueGap_cfg (s : State) : (s.buildDueGap).cfg = s.cfg := by unfold State.buildDueGap; split <;> simp
@[simp] theorem State.buildDueGap_totals (s : State) : (s.buildDueGap).totals = s.totals := by unfold State.buildDueGap; split <;> simp
@[simp] theorem State.buildDueGap_demand (s : State) : (s.buildDueGap).demand = s.demand := by unfold State.buildDueGap; split <;> simp
@[simp] theorem State.buildDueGap_main (s : State) : (s.buildDueGap).main = s.main := by unfold State.buildDueGap; split <;> simp

@[simp] theorem State.releaseDeferred_pending (s : State) : (s.releaseDeferred).pending = s.pending := by unfold State.releaseDeferred; split <;> simp
@[simp] theorem State.releaseDeferred_freeCount (s : State) : (s.releaseDeferred).freeCount = s.freeCount := by unfold State.releaseDeferred; split <;> simp
@[simp] theorem State.releaseDeferred_oscRunning (s : State) : (s.releaseDeferred).oscRunning = s.oscRunning := by unfold State.releaseDeferred; split <;> simp
@[simp] theorem State.releaseDeferred_csnHigh (s : State) : (s.releaseDeferred).csnHigh = s.csnHigh := by unfold State.releaseDeferred; split <;> simp
@[simp] theorem State.releaseDeferred_monitor (s : State) : (s.releaseDeferred).monitor = s.monitor := by unfold State.releaseDeferred; split <;> simp
@[simp] theorem State.releaseDeferred_cal (s : State) : (s.releaseDeferred).cal = s.cal := by unfold State.releaseDeferred; split <;> simp
@[simp] theorem State.releaseDeferred_queue (s : State) : (s.releaseDeferred).queue = s.queue := by unfold State.releaseDeferred; split <;> simp
@[simp] theorem State.releaseDeferred_totals (s : State) : (s.releaseDeferred).totals = s.totals := by unfold State.releaseDeferred; split <;> simp
@[simp] theorem State.releaseDeferred_demand (s : State) : (s.releaseDeferred).demand = s.demand := by unfold State.releaseDeferred; split <;> simp

@[simp] theorem State.completeClose_pending (s : State) : (s.completeClose).pending = s.pending := by simp [State.completeClose]
@[simp] theorem State.completeClose_freeCount (s : State) : (s.completeClose).freeCount = s.freeCount := by simp [State.completeClose]
@[simp] theorem State.completeClose_oscRunning (s : State) : (s.completeClose).oscRunning = s.oscRunning := by simp [State.completeClose]
@[simp] theorem State.completeClose_csnHigh (s : State) : (s.completeClose).csnHigh = s.csnHigh := by simp [State.completeClose]
@[simp] theorem State.completeClose_monitor (s : State) : (s.completeClose).monitor = s.monitor := by simp [State.completeClose]
@[simp] theorem State.completeClose_cal (s : State) : (s.completeClose).cal = s.cal := by simp [State.completeClose]
@[simp] theorem State.completeClose_totals (s : State) : (s.completeClose).totals = s.totals := by simp [State.completeClose]
@[simp] theorem State.completeClose_demand (s : State) : (s.completeClose).demand = s.demand := by simp [State.completeClose]

@[simp] theorem State.creditEntry_pending (s : State) (r : Record) (e : RecordEntry) : (s.creditEntry r e).pending = s.pending := by unfold State.creditEntry; dsimp only; split <;> simp
@[simp] theorem State.creditEntry_freeCount (s : State) (r : Record) (e : RecordEntry) : (s.creditEntry r e).freeCount = s.freeCount := by unfold State.creditEntry; dsimp only; split <;> simp
@[simp] theorem State.creditEntry_oscRunning (s : State) (r : Record) (e : RecordEntry) : (s.creditEntry r e).oscRunning = s.oscRunning := by unfold State.creditEntry; dsimp only; split <;> simp
@[simp] theorem State.creditEntry_csnHigh (s : State) (r : Record) (e : RecordEntry) : (s.creditEntry r e).csnHigh = s.csnHigh := by unfold State.creditEntry; dsimp only; split <;> simp
@[simp] theorem State.creditEntry_monitor (s : State) (r : Record) (e : RecordEntry) : (s.creditEntry r e).monitor = s.monitor := by unfold State.creditEntry; dsimp only; split <;> simp
@[simp] theorem State.creditEntry_cal (s : State) (r : Record) (e : RecordEntry) : (s.creditEntry r e).cal = s.cal := by unfold State.creditEntry; dsimp only; split <;> simp
@[simp] theorem State.creditEntry_bankA (s : State) (r : Record) (e : RecordEntry) : (s.creditEntry r e).bankA = s.bankA := by unfold State.creditEntry; dsimp only; split <;> simp
@[simp] theorem State.creditEntry_bankB (s : State) (r : Record) (e : RecordEntry) : (s.creditEntry r e).bankB = s.bankB := by unfold State.creditEntry; dsimp only; split <;> simp
@[simp] theorem State.creditEntry_ic (s : State) (r : Record) (e : RecordEntry) : (s.creditEntry r e).ic = s.ic := by unfold State.creditEntry; dsimp only; split <;> simp
@[simp] theorem State.creditEntry_cfg (s : State) (r : Record) (e : RecordEntry) : (s.creditEntry r e).cfg = s.cfg := by unfold State.creditEntry; dsimp only; split <;> simp
@[simp] theorem State.creditEntry_queue (s : State) (r : Record) (e : RecordEntry) : (s.creditEntry r e).queue = s.queue := by unfold State.creditEntry; dsimp only; split <;> simp
@[simp] theorem State.creditEntry_main (s : State) (r : Record) (e : RecordEntry) : (s.creditEntry r e).main = s.main := by unfold State.creditEntry; dsimp only; split <;> simp

@[simp] theorem State.secondEvent_pending (s : State) : (s.secondEvent).pending = s.pending := by unfold State.secondEvent; dsimp only; split <;> split <;> simp
@[simp] theorem State.secondEvent_freeCount (s : State) : (s.secondEvent).freeCount = s.freeCount := by unfold State.secondEvent; dsimp only; split <;> split <;> simp
@[simp] theorem State.secondEvent_oscRunning (s : State) : (s.secondEvent).oscRunning = s.oscRunning := by unfold State.secondEvent; dsimp only; split <;> split <;> simp
@[simp] theorem State.secondEvent_csnHigh (s : State) : (s.secondEvent).csnHigh = s.csnHigh := by unfold State.secondEvent; dsimp only; split <;> split <;> simp
@[simp] theorem State.secondEvent_monitor (s : State) : (s.secondEvent).monitor = s.monitor := by unfold State.secondEvent; dsimp only; split <;> split <;> simp
@[simp] theorem State.secondEvent_queue (s : State) : (s.secondEvent).queue = s.queue := by unfold State.secondEvent; dsimp only; split <;> split <;> simp
@[simp] theorem State.secondEvent_totals (s : State) : (s.secondEvent).totals = s.totals := by unfold State.secondEvent; dsimp only; split <;> split <;> simp
@[simp] theorem State.secondEvent_demand (s : State) : (s.secondEvent).demand = s.demand := by unfold State.secondEvent; dsimp only; split <;> split <;> simp

@[simp] theorem State.doTimeLoad_pending (s : State) : (s.doTimeLoad).pending = s.pending := by unfold State.doTimeLoad; dsimp only; split <;> simp
@[simp] theorem State.doTimeLoad_freeCount (s : State) : (s.doTimeLoad).freeCount = s.freeCount := by unfold State.doTimeLoad; dsimp only; split <;> simp
@[simp] theorem State.doTimeLoad_oscRunning (s : State) : (s.doTimeLoad).oscRunning = s.oscRunning := by unfold State.doTimeLoad; dsimp only; split <;> simp
@[simp] theorem State.doTimeLoad_csnHigh (s : State) : (s.doTimeLoad).csnHigh = s.csnHigh := by unfold State.doTimeLoad; dsimp only; split <;> simp
@[simp] theorem State.doTimeLoad_monitor (s : State) : (s.doTimeLoad).monitor = s.monitor := by unfold State.doTimeLoad; dsimp only; split <;> simp
@[simp] theorem State.doTimeLoad_queue (s : State) : (s.doTimeLoad).queue = s.queue := by unfold State.doTimeLoad; dsimp only; split <;> simp
@[simp] theorem State.doTimeLoad_totals (s : State) : (s.doTimeLoad).totals = s.totals := by unfold State.doTimeLoad; dsimp only; split <;> simp
@[simp] theorem State.doTimeLoad_demand (s : State) : (s.doTimeLoad).demand = s.demand := by unfold State.doTimeLoad; dsimp only; split <;> simp

@[simp] theorem State.doTimeTrim_pending (s : State) (arg : Byte) : (s.doTimeTrim arg).pending = s.pending := by unfold State.doTimeTrim; (repeat' split) <;> simp
@[simp] theorem State.doTimeTrim_freeCount (s : State) (arg : Byte) : (s.doTimeTrim arg).freeCount = s.freeCount := by unfold State.doTimeTrim; (repeat' split) <;> simp
@[simp] theorem State.doTimeTrim_oscRunning (s : State) (arg : Byte) : (s.doTimeTrim arg).oscRunning = s.oscRunning := by unfold State.doTimeTrim; (repeat' split) <;> simp
@[simp] theorem State.doTimeTrim_csnHigh (s : State) (arg : Byte) : (s.doTimeTrim arg).csnHigh = s.csnHigh := by unfold State.doTimeTrim; (repeat' split) <;> simp
@[simp] theorem State.doTimeTrim_monitor (s : State) (arg : Byte) : (s.doTimeTrim arg).monitor = s.monitor := by unfold State.doTimeTrim; (repeat' split) <;> simp
@[simp] theorem State.doTimeTrim_bankA (s : State) (arg : Byte) : (s.doTimeTrim arg).bankA = s.bankA := by unfold State.doTimeTrim; (repeat' split) <;> simp
@[simp] theorem State.doTimeTrim_bankB (s : State) (arg : Byte) : (s.doTimeTrim arg).bankB = s.bankB := by unfold State.doTimeTrim; (repeat' split) <;> simp
@[simp] theorem State.doTimeTrim_ic (s : State) (arg : Byte) : (s.doTimeTrim arg).ic = s.ic := by unfold State.doTimeTrim; (repeat' split) <;> simp
@[simp] theorem State.doTimeTrim_cfg (s : State) (arg : Byte) : (s.doTimeTrim arg).cfg = s.cfg := by unfold State.doTimeTrim; (repeat' split) <;> simp
@[simp] theorem State.doTimeTrim_queue (s : State) (arg : Byte) : (s.doTimeTrim arg).queue = s.queue := by unfold State.doTimeTrim; (repeat' split) <;> simp
@[simp] theorem State.doTimeTrim_totals (s : State) (arg : Byte) : (s.doTimeTrim arg).totals = s.totals := by unfold State.doTimeTrim; (repeat' split) <;> simp
@[simp] theorem State.doTimeTrim_demand (s : State) (arg : Byte) : (s.doTimeTrim arg).demand = s.demand := by unfold State.doTimeTrim; (repeat' split) <;> simp

@[simp] theorem State.doCommitAtNext_pending (s : State) : (s.doCommitAtNext).pending = s.pending := by unfold State.doCommitAtNext; dsimp only; (repeat' split) <;> simp
@[simp] theorem State.doCommitAtNext_freeCount (s : State) : (s.doCommitAtNext).freeCount = s.freeCount := by unfold State.doCommitAtNext; dsimp only; (repeat' split) <;> simp
@[simp] theorem State.doCommitAtNext_oscRunning (s : State) : (s.doCommitAtNext).oscRunning = s.oscRunning := by unfold State.doCommitAtNext; dsimp only; (repeat' split) <;> simp
@[simp] theorem State.doCommitAtNext_csnHigh (s : State) : (s.doCommitAtNext).csnHigh = s.csnHigh := by unfold State.doCommitAtNext; dsimp only; (repeat' split) <;> simp
@[simp] theorem State.doCommitAtNext_monitor (s : State) : (s.doCommitAtNext).monitor = s.monitor := by unfold State.doCommitAtNext; dsimp only; (repeat' split) <;> simp
@[simp] theorem State.doCommitAtNext_cal (s : State) : (s.doCommitAtNext).cal = s.cal := by unfold State.doCommitAtNext; dsimp only; (repeat' split) <;> simp
@[simp] theorem State.doCommitAtNext_bankA (s : State) : (s.doCommitAtNext).bankA = s.bankA := by unfold State.doCommitAtNext; dsimp only; (repeat' split) <;> simp
@[simp] theorem State.doCommitAtNext_bankB (s : State) : (s.doCommitAtNext).bankB = s.bankB := by unfold State.doCommitAtNext; dsimp only; (repeat' split) <;> simp
@[simp] theorem State.doCommitAtNext_ic (s : State) : (s.doCommitAtNext).ic = s.ic := by unfold State.doCommitAtNext; dsimp only; (repeat' split) <;> simp
@[simp] theorem State.doCommitAtNext_queue (s : State) : (s.doCommitAtNext).queue = s.queue := by unfold State.doCommitAtNext; dsimp only; (repeat' split) <;> simp
@[simp] theorem State.doCommitAtNext_totals (s : State) : (s.doCommitAtNext).totals = s.totals := by unfold State.doCommitAtNext; dsimp only; (repeat' split) <;> simp
@[simp] theorem State.doCommitAtNext_demand (s : State) : (s.doCommitAtNext).demand = s.demand := by unfold State.doCommitAtNext; dsimp only; (repeat' split) <;> simp

@[simp] theorem State.doCommitNow_pending (s : State) : (s.doCommitNow).pending = s.pending := by unfold State.doCommitNow; (repeat' split) <;> simp
@[simp] theorem State.doCommitNow_freeCount (s : State) : (s.doCommitNow).freeCount = s.freeCount := by unfold State.doCommitNow; (repeat' split) <;> simp
@[simp] theorem State.doCommitNow_oscRunning (s : State) : (s.doCommitNow).oscRunning = s.oscRunning := by unfold State.doCommitNow; (repeat' split) <;> simp
@[simp] theorem State.doCommitNow_csnHigh (s : State) : (s.doCommitNow).csnHigh = s.csnHigh := by unfold State.doCommitNow; (repeat' split) <;> simp
@[simp] theorem State.doCommitNow_monitor (s : State) : (s.doCommitNow).monitor = s.monitor := by unfold State.doCommitNow; (repeat' split) <;> simp
@[simp] theorem State.doCommitNow_cal (s : State) : (s.doCommitNow).cal = s.cal := by unfold State.doCommitNow; (repeat' split) <;> simp
@[simp] theorem State.doCommitNow_queue (s : State) : (s.doCommitNow).queue = s.queue := by unfold State.doCommitNow; (repeat' split) <;> simp
@[simp] theorem State.doCommitNow_totals (s : State) : (s.doCommitNow).totals = s.totals := by unfold State.doCommitNow; (repeat' split) <;> simp
@[simp] theorem State.doCommitNow_demand (s : State) : (s.doCommitNow).demand = s.demand := by unfold State.doCommitNow; (repeat' split) <;> simp

@[simp] theorem State.doConfigCommit_pending (s : State) (arg : Byte) : (s.doConfigCommit arg).pending = s.pending := by unfold State.doConfigCommit; (repeat' split) <;> simp
@[simp] theorem State.doConfigCommit_freeCount (s : State) (arg : Byte) : (s.doConfigCommit arg).freeCount = s.freeCount := by unfold State.doConfigCommit; (repeat' split) <;> simp
@[simp] theorem State.doConfigCommit_oscRunning (s : State) (arg : Byte) : (s.doConfigCommit arg).oscRunning = s.oscRunning := by unfold State.doConfigCommit; (repeat' split) <;> simp
@[simp] theorem State.doConfigCommit_csnHigh (s : State) (arg : Byte) : (s.doConfigCommit arg).csnHigh = s.csnHigh := by unfold State.doConfigCommit; (repeat' split) <;> simp
@[simp] theorem State.doConfigCommit_monitor (s : State) (arg : Byte) : (s.doConfigCommit arg).monitor = s.monitor := by unfold State.doConfigCommit; (repeat' split) <;> simp
@[simp] theorem State.doConfigCommit_cal (s : State) (arg : Byte) : (s.doConfigCommit arg).cal = s.cal := by unfold State.doConfigCommit; (repeat' split) <;> simp
@[simp] theorem State.doConfigCommit_queue (s : State) (arg : Byte) : (s.doConfigCommit arg).queue = s.queue := by unfold State.doConfigCommit; (repeat' split) <;> simp
@[simp] theorem State.doConfigCommit_totals (s : State) (arg : Byte) : (s.doConfigCommit arg).totals = s.totals := by unfold State.doConfigCommit; (repeat' split) <;> simp
@[simp] theorem State.doConfigCommit_demand (s : State) (arg : Byte) : (s.doConfigCommit arg).demand = s.demand := by unfold State.doConfigCommit; (repeat' split) <;> simp

@[simp] theorem State.doConfigCancel_pending (s : State) : (s.doConfigCancel).pending = s.pending := by unfold State.doConfigCancel; split <;> simp
@[simp] theorem State.doConfigCancel_freeCount (s : State) : (s.doConfigCancel).freeCount = s.freeCount := by unfold State.doConfigCancel; split <;> simp
@[simp] theorem State.doConfigCancel_oscRunning (s : State) : (s.doConfigCancel).oscRunning = s.oscRunning := by unfold State.doConfigCancel; split <;> simp
@[simp] theorem State.doConfigCancel_csnHigh (s : State) : (s.doConfigCancel).csnHigh = s.csnHigh := by unfold State.doConfigCancel; split <;> simp
@[simp] theorem State.doConfigCancel_monitor (s : State) : (s.doConfigCancel).monitor = s.monitor := by unfold State.doConfigCancel; split <;> simp
@[simp] theorem State.doConfigCancel_cal (s : State) : (s.doConfigCancel).cal = s.cal := by unfold State.doConfigCancel; split <;> simp
@[simp] theorem State.doConfigCancel_bankA (s : State) : (s.doConfigCancel).bankA = s.bankA := by unfold State.doConfigCancel; split <;> simp
@[simp] theorem State.doConfigCancel_bankB (s : State) : (s.doConfigCancel).bankB = s.bankB := by unfold State.doConfigCancel; split <;> simp
@[simp] theorem State.doConfigCancel_ic (s : State) : (s.doConfigCancel).ic = s.ic := by unfold State.doConfigCancel; split <;> simp
@[simp] theorem State.doConfigCancel_queue (s : State) : (s.doConfigCancel).queue = s.queue := by unfold State.doConfigCancel; split <;> simp
@[simp] theorem State.doConfigCancel_totals (s : State) : (s.doConfigCancel).totals = s.totals := by unfold State.doConfigCancel; split <;> simp
@[simp] theorem State.doConfigCancel_demand (s : State) : (s.doConfigCancel).demand = s.demand := by unfold State.doConfigCancel; split <;> simp

@[simp] theorem State.doConfigFetch_pending (s : State) : (s.doConfigFetch).pending = s.pending := by unfold State.doConfigFetch; split <;> simp
@[simp] theorem State.doConfigFetch_freeCount (s : State) : (s.doConfigFetch).freeCount = s.freeCount := by unfold State.doConfigFetch; split <;> simp
@[simp] theorem State.doConfigFetch_oscRunning (s : State) : (s.doConfigFetch).oscRunning = s.oscRunning := by unfold State.doConfigFetch; split <;> simp
@[simp] theorem State.doConfigFetch_csnHigh (s : State) : (s.doConfigFetch).csnHigh = s.csnHigh := by unfold State.doConfigFetch; split <;> simp
@[simp] theorem State.doConfigFetch_monitor (s : State) : (s.doConfigFetch).monitor = s.monitor := by unfold State.doConfigFetch; split <;> simp
@[simp] theorem State.doConfigFetch_cal (s : State) : (s.doConfigFetch).cal = s.cal := by unfold State.doConfigFetch; split <;> simp
@[simp] theorem State.doConfigFetch_bankA (s : State) : (s.doConfigFetch).bankA = s.bankA := by unfold State.doConfigFetch; split <;> simp
@[simp] theorem State.doConfigFetch_bankB (s : State) : (s.doConfigFetch).bankB = s.bankB := by unfold State.doConfigFetch; split <;> simp
@[simp] theorem State.doConfigFetch_ic (s : State) : (s.doConfigFetch).ic = s.ic := by unfold State.doConfigFetch; split <;> simp
@[simp] theorem State.doConfigFetch_queue (s : State) : (s.doConfigFetch).queue = s.queue := by unfold State.doConfigFetch; split <;> simp
@[simp] theorem State.doConfigFetch_totals (s : State) : (s.doConfigFetch).totals = s.totals := by unfold State.doConfigFetch; split <;> simp
@[simp] theorem State.doConfigFetch_demand (s : State) : (s.doConfigFetch).demand = s.demand := by unfold State.doConfigFetch; split <;> simp

@[simp] theorem State.doForceClose_pending (s : State) : (s.doForceClose).pending = s.pending := by simp [State.doForceClose]
@[simp] theorem State.doForceClose_freeCount (s : State) : (s.doForceClose).freeCount = s.freeCount := by simp [State.doForceClose]
@[simp] theorem State.doForceClose_oscRunning (s : State) : (s.doForceClose).oscRunning = s.oscRunning := by simp [State.doForceClose]
@[simp] theorem State.doForceClose_csnHigh (s : State) : (s.doForceClose).csnHigh = s.csnHigh := by simp [State.doForceClose]
@[simp] theorem State.doForceClose_monitor (s : State) : (s.doForceClose).monitor = s.monitor := by simp [State.doForceClose]
@[simp] theorem State.doForceClose_cal (s : State) : (s.doForceClose).cal = s.cal := by simp [State.doForceClose]
@[simp] theorem State.doForceClose_queue (s : State) : (s.doForceClose).queue = s.queue := by simp [State.doForceClose]
@[simp] theorem State.doForceClose_totals (s : State) : (s.doForceClose).totals = s.totals := by simp [State.doForceClose]
@[simp] theorem State.doForceClose_demand (s : State) : (s.doForceClose).demand = s.demand := by simp [State.doForceClose]

@[simp] theorem State.doSnapshot_pending (s : State) : (s.doSnapshot).pending = s.pending := by simp [State.doSnapshot]
@[simp] theorem State.doSnapshot_oscRunning (s : State) : (s.doSnapshot).oscRunning = s.oscRunning := by simp [State.doSnapshot]
@[simp] theorem State.doSnapshot_csnHigh (s : State) : (s.doSnapshot).csnHigh = s.csnHigh := by simp [State.doSnapshot]
@[simp] theorem State.doSnapshot_monitor (s : State) : (s.doSnapshot).monitor = s.monitor := by simp [State.doSnapshot]
@[simp] theorem State.doSnapshot_cal (s : State) : (s.doSnapshot).cal = s.cal := by simp [State.doSnapshot]
@[simp] theorem State.doSnapshot_bankA (s : State) : (s.doSnapshot).bankA = s.bankA := by simp [State.doSnapshot]
@[simp] theorem State.doSnapshot_bankB (s : State) : (s.doSnapshot).bankB = s.bankB := by simp [State.doSnapshot]
@[simp] theorem State.doSnapshot_ic (s : State) : (s.doSnapshot).ic = s.ic := by simp [State.doSnapshot]
@[simp] theorem State.doSnapshot_cfg (s : State) : (s.doSnapshot).cfg = s.cfg := by simp [State.doSnapshot]
@[simp] theorem State.doSnapshot_queue (s : State) : (s.doSnapshot).queue = s.queue := by simp [State.doSnapshot]
@[simp] theorem State.doSnapshot_totals (s : State) : (s.doSnapshot).totals = s.totals := by simp [State.doSnapshot]
@[simp] theorem State.doSnapshot_demand (s : State) : (s.doSnapshot).demand = s.demand := by simp [State.doSnapshot]

@[simp] theorem State.doTotalsClear_pending (s : State) : (s.doTotalsClear).pending = s.pending := by simp [State.doTotalsClear]
@[simp] theorem State.doTotalsClear_freeCount (s : State) : (s.doTotalsClear).freeCount = s.freeCount := by simp [State.doTotalsClear]
@[simp] theorem State.doTotalsClear_oscRunning (s : State) : (s.doTotalsClear).oscRunning = s.oscRunning := by simp [State.doTotalsClear]
@[simp] theorem State.doTotalsClear_csnHigh (s : State) : (s.doTotalsClear).csnHigh = s.csnHigh := by simp [State.doTotalsClear]
@[simp] theorem State.doTotalsClear_monitor (s : State) : (s.doTotalsClear).monitor = s.monitor := by simp [State.doTotalsClear]
@[simp] theorem State.doTotalsClear_cal (s : State) : (s.doTotalsClear).cal = s.cal := by simp [State.doTotalsClear]
@[simp] theorem State.doTotalsClear_bankA (s : State) : (s.doTotalsClear).bankA = s.bankA := by simp [State.doTotalsClear]
@[simp] theorem State.doTotalsClear_bankB (s : State) : (s.doTotalsClear).bankB = s.bankB := by simp [State.doTotalsClear]
@[simp] theorem State.doTotalsClear_ic (s : State) : (s.doTotalsClear).ic = s.ic := by simp [State.doTotalsClear]
@[simp] theorem State.doTotalsClear_cfg (s : State) : (s.doTotalsClear).cfg = s.cfg := by simp [State.doTotalsClear]
@[simp] theorem State.doTotalsClear_queue (s : State) : (s.doTotalsClear).queue = s.queue := by simp [State.doTotalsClear]
@[simp] theorem State.doTotalsClear_demand (s : State) : (s.doTotalsClear).demand = s.demand := by simp [State.doTotalsClear]

@[simp] theorem State.doDemandReset_pending (s : State) : (s.doDemandReset).pending = s.pending := by simp [State.doDemandReset]
@[simp] theorem State.doDemandReset_freeCount (s : State) : (s.doDemandReset).freeCount = s.freeCount := by simp [State.doDemandReset]
@[simp] theorem State.doDemandReset_oscRunning (s : State) : (s.doDemandReset).oscRunning = s.oscRunning := by simp [State.doDemandReset]
@[simp] theorem State.doDemandReset_csnHigh (s : State) : (s.doDemandReset).csnHigh = s.csnHigh := by simp [State.doDemandReset]
@[simp] theorem State.doDemandReset_monitor (s : State) : (s.doDemandReset).monitor = s.monitor := by simp [State.doDemandReset]
@[simp] theorem State.doDemandReset_cal (s : State) : (s.doDemandReset).cal = s.cal := by simp [State.doDemandReset]
@[simp] theorem State.doDemandReset_bankA (s : State) : (s.doDemandReset).bankA = s.bankA := by simp [State.doDemandReset]
@[simp] theorem State.doDemandReset_bankB (s : State) : (s.doDemandReset).bankB = s.bankB := by simp [State.doDemandReset]
@[simp] theorem State.doDemandReset_ic (s : State) : (s.doDemandReset).ic = s.ic := by simp [State.doDemandReset]
@[simp] theorem State.doDemandReset_cfg (s : State) : (s.doDemandReset).cfg = s.cfg := by simp [State.doDemandReset]
@[simp] theorem State.doDemandReset_queue (s : State) : (s.doDemandReset).queue = s.queue := by simp [State.doDemandReset]
@[simp] theorem State.doDemandReset_totals (s : State) : (s.doDemandReset).totals = s.totals := by simp [State.doDemandReset]

@[simp] theorem State.doRecordOpen_pending (s : State) : (s.doRecordOpen).pending = s.pending := by unfold State.doRecordOpen; split <;> simp
@[simp] theorem State.doRecordOpen_freeCount (s : State) : (s.doRecordOpen).freeCount = s.freeCount := by unfold State.doRecordOpen; split <;> simp
@[simp] theorem State.doRecordOpen_oscRunning (s : State) : (s.doRecordOpen).oscRunning = s.oscRunning := by unfold State.doRecordOpen; split <;> simp
@[simp] theorem State.doRecordOpen_csnHigh (s : State) : (s.doRecordOpen).csnHigh = s.csnHigh := by unfold State.doRecordOpen; split <;> simp
@[simp] theorem State.doRecordOpen_monitor (s : State) : (s.doRecordOpen).monitor = s.monitor := by unfold State.doRecordOpen; split <;> simp
@[simp] theorem State.doRecordOpen_cal (s : State) : (s.doRecordOpen).cal = s.cal := by unfold State.doRecordOpen; split <;> simp
@[simp] theorem State.doRecordOpen_bankA (s : State) : (s.doRecordOpen).bankA = s.bankA := by unfold State.doRecordOpen; split <;> simp
@[simp] theorem State.doRecordOpen_bankB (s : State) : (s.doRecordOpen).bankB = s.bankB := by unfold State.doRecordOpen; split <;> simp
@[simp] theorem State.doRecordOpen_ic (s : State) : (s.doRecordOpen).ic = s.ic := by unfold State.doRecordOpen; split <;> simp
@[simp] theorem State.doRecordOpen_cfg (s : State) : (s.doRecordOpen).cfg = s.cfg := by unfold State.doRecordOpen; split <;> simp
@[simp] theorem State.doRecordOpen_totals (s : State) : (s.doRecordOpen).totals = s.totals := by unfold State.doRecordOpen; split <;> simp
@[simp] theorem State.doRecordOpen_demand (s : State) : (s.doRecordOpen).demand = s.demand := by unfold State.doRecordOpen; split <;> simp

@[simp] theorem State.doRecordRelease_pending (s : State) : (s.doRecordRelease).pending = s.pending := by unfold State.doRecordRelease; split <;> simp
@[simp] theorem State.doRecordRelease_freeCount (s : State) : (s.doRecordRelease).freeCount = s.freeCount := by unfold State.doRecordRelease; split <;> simp
@[simp] theorem State.doRecordRelease_oscRunning (s : State) : (s.doRecordRelease).oscRunning = s.oscRunning := by unfold State.doRecordRelease; split <;> simp
@[simp] theorem State.doRecordRelease_csnHigh (s : State) : (s.doRecordRelease).csnHigh = s.csnHigh := by unfold State.doRecordRelease; split <;> simp
@[simp] theorem State.doRecordRelease_monitor (s : State) : (s.doRecordRelease).monitor = s.monitor := by unfold State.doRecordRelease; split <;> simp
@[simp] theorem State.doRecordRelease_cal (s : State) : (s.doRecordRelease).cal = s.cal := by unfold State.doRecordRelease; split <;> simp
@[simp] theorem State.doRecordRelease_bankA (s : State) : (s.doRecordRelease).bankA = s.bankA := by unfold State.doRecordRelease; split <;> simp
@[simp] theorem State.doRecordRelease_bankB (s : State) : (s.doRecordRelease).bankB = s.bankB := by unfold State.doRecordRelease; split <;> simp
@[simp] theorem State.doRecordRelease_ic (s : State) : (s.doRecordRelease).ic = s.ic := by unfold State.doRecordRelease; split <;> simp
@[simp] theorem State.doRecordRelease_cfg (s : State) : (s.doRecordRelease).cfg = s.cfg := by unfold State.doRecordRelease; split <;> simp
@[simp] theorem State.doRecordRelease_totals (s : State) : (s.doRecordRelease).totals = s.totals := by unfold State.doRecordRelease; split <;> simp
@[simp] theorem State.doRecordRelease_demand (s : State) : (s.doRecordRelease).demand = s.demand := by unfold State.doRecordRelease; split <;> simp

@[simp] theorem State.doQueueFlush_pending (s : State) : (s.doQueueFlush).pending = s.pending := by simp [State.doQueueFlush]
@[simp] theorem State.doQueueFlush_freeCount (s : State) : (s.doQueueFlush).freeCount = s.freeCount := by simp [State.doQueueFlush]
@[simp] theorem State.doQueueFlush_oscRunning (s : State) : (s.doQueueFlush).oscRunning = s.oscRunning := by simp [State.doQueueFlush]
@[simp] theorem State.doQueueFlush_csnHigh (s : State) : (s.doQueueFlush).csnHigh = s.csnHigh := by simp [State.doQueueFlush]
@[simp] theorem State.doQueueFlush_monitor (s : State) : (s.doQueueFlush).monitor = s.monitor := by simp [State.doQueueFlush]
@[simp] theorem State.doQueueFlush_cal (s : State) : (s.doQueueFlush).cal = s.cal := by simp [State.doQueueFlush]
@[simp] theorem State.doQueueFlush_bankA (s : State) : (s.doQueueFlush).bankA = s.bankA := by simp [State.doQueueFlush]
@[simp] theorem State.doQueueFlush_bankB (s : State) : (s.doQueueFlush).bankB = s.bankB := by simp [State.doQueueFlush]
@[simp] theorem State.doQueueFlush_ic (s : State) : (s.doQueueFlush).ic = s.ic := by simp [State.doQueueFlush]
@[simp] theorem State.doQueueFlush_cfg (s : State) : (s.doQueueFlush).cfg = s.cfg := by simp [State.doQueueFlush]
@[simp] theorem State.doQueueFlush_totals (s : State) : (s.doQueueFlush).totals = s.totals := by simp [State.doQueueFlush]
@[simp] theorem State.doQueueFlush_demand (s : State) : (s.doQueueFlush).demand = s.demand := by simp [State.doQueueFlush]

@[simp] theorem State.doSoftReset_pending (s : State) : (s.doSoftReset).pending = s.pending := by unfold State.doSoftReset; dsimp only; split <;> simp
@[simp] theorem State.doSoftReset_freeCount (s : State) : (s.doSoftReset).freeCount = s.freeCount := by unfold State.doSoftReset; dsimp only; split <;> simp
@[simp] theorem State.doSoftReset_oscRunning (s : State) : (s.doSoftReset).oscRunning = s.oscRunning := by unfold State.doSoftReset; dsimp only; split <;> simp
@[simp] theorem State.doSoftReset_csnHigh (s : State) : (s.doSoftReset).csnHigh = s.csnHigh := by unfold State.doSoftReset; dsimp only; split <;> simp
@[simp] theorem State.doSoftReset_monitor (s : State) : (s.doSoftReset).monitor = s.monitor := by unfold State.doSoftReset; dsimp only; split <;> simp
@[simp] theorem State.doSoftReset_cal (s : State) : (s.doSoftReset).cal = s.cal := by unfold State.doSoftReset; dsimp only; split <;> simp
@[simp] theorem State.doSoftReset_totals (s : State) : (s.doSoftReset).totals = s.totals := by unfold State.doSoftReset; dsimp only; split <;> simp
@[simp] theorem State.doSoftReset_demand (s : State) : (s.doSoftReset).demand = s.demand := by unfold State.doSoftReset; dsimp only; split <;> simp

end Sys2Proof.Machine
end

