-- ==== Sys2Proof/Laws/Intake.lean ====
section
/-! SUPPORT. What the intake operations do, once each: a frame's bits, the sequence check, a rejection, an arrival, a drop. -/

namespace Sys2Proof.Machine

theorem satInc_eight (x : BitVec 8) : satInc x = BitVec.ofNat 8 (min (x.toNat + 1) 255) := rfl

theorem satAdd_eight (x : BitVec 8) (n : Nat) : satAdd x n = BitVec.ofNat 8 (min (x.toNat + n) 255) := rfl

theorem satInc_twelve (x : BitVec 12) : satInc x = BitVec.ofNat 12 (min (x.toNat + 1) 4095) := rfl

theorem satAdd_twelve (x : BitVec 12) (n : Nat) : satAdd x n = BitVec.ofNat 12 (min (x.toNat + n) 4095) := rfl

theorem satAdd_zero {w : Nat} (x : BitVec w) : satAdd x 0 = x := by
  have := x.isLt
  apply BitVec.eq_of_toNat_eq
  simp only [satAdd, Nat.add_zero, BitVec.toNat_ofNat]
  rw [Nat.mod_eq_of_lt (by omega)]
  omega

/-- A saturating count read as a number. -/
theorem toNat_satAdd {w : Nat} (x : BitVec w) (n : Nat) : (satAdd x n).toNat = min (x.toNat + n) (2 ^ w - 1) := by
  have := x.isLt
  simp only [satAdd, BitVec.toNat_ofNat]
  rw [Nat.mod_eq_of_lt (by omega)]

/-- The next bit of a word joins the bits above it. -/
theorem nextBits_shift (w : Word) (k : Nat) : nextBits (w >>> (k + 1)) (w.getLsbD k) = w >>> k := by
  apply BitVec.eq_of_getLsbD_eq
  intro i hi
  simp only [nextBits, BitVec.getLsbD_or, BitVec.getLsbD_shiftLeft, BitVec.getLsbD_ushiftRight, BitVec.getLsbD_setWidth]
  rcases i with _ | i
  · simp
  · simp [hi, Nat.add_assoc, Nat.add_comm 1]

/-- The 32nd bit completes the word. -/
theorem nextBits_last (w : Word) : nextBits (w >>> 1) (w.getLsbD 0) = w := by
  have := nextBits_shift w 0
  simpa only [Nat.zero_add, BitVec.ushiftRight_zero] using this

theorem frameTag_toNat (w : Word) : (frameTag w).toNat = w.toNat / 2 ^ 28 := by
  have := w.isLt
  simp only [frameTag, BitVec.extractLsb'_toNat, Nat.shiftRight_eq_div_pow]
  omega

/-- LINK_FRAME with 31 bits received decides on the whole word. -/
theorem exec_linkFrame_complete {s : State} {w : Word} (h : s.monitor.supply = .main)
    (hs : s.main.link.shift = .shifting 31 (w >>> 1)) :
    exec (.linkFrame (w.getLsbD 0)) s = .next ((s.withLink { s.main.link with shift := .hunt }).decideFrame w) := by
  have hm : s.inMain = true := by simp [State.inMain, h]
  simp only [exec, execLinkFrame, State.linkEdge, hm, hs, if_true, nextBits_last]
  simp

theorem State.setBank_self (s : State) (t : Tag) : s.setBank t (s.bank t) = s := by cases t <;> rfl

/-- What a rejection does (R2, R3, R6, R10). -/
theorem State.reject_eq (s : State) (c : Cause) :
    s.reject c = { s.setBank s.openTag { s.openBank with rejected := satInc s.openBank.rejected } with
      events := s.events.set s.monitor.supply c } := by
  by_cases ho : s.bankA.state = .opened <;>
    simp [State.reject, State.modifyOpen, State.modifyBank, State.setCause, State.openBank, State.openTag, State.bank,
      State.setBank, ho]

/-- The gap of a frame with sequence r (R4, R5). -/
def Link.gap (l : Link) (r : BitVec 3) : Nat := if l.resyncPending then 0 else (r - l.expected).toNat

/-- What the sequence check does (R4, R5). -/
theorem State.checkSequence_eq (s : State) (r : BitVec 3) :
    s.checkSequence r = { s.setBank s.openTag { s.openBank with gaps := satAdd s.openBank.gaps (s.main.link.gap r) } with
      events := if s.main.link.gap r = 0 then s.events else s.events.set s.monitor.supply .linkError
      main := { s.main with link := { s.main.link with expected := r + 1, resyncPending := false } } } := by
  unfold State.checkSequence
  by_cases hg : s.main.link.resyncPending = true ∨ r = s.main.link.expected
  · have h0 : s.main.link.gap r = 0 := by
      rcases hg with h | h <;> simp [Link.gap, h]
    simp only [hg, if_true, h0, satAdd_zero]
    cases hT : s.openTag <;> simp [State.setBank, State.openBank, hT, State.bank, State.withLink]
  · have h1 : s.main.link.gap r = (r - s.main.link.expected).toNat := by
      simp [Link.gap]; intro h; exact absurd (Or.inl h) hg
    have h0 : (r - s.main.link.expected).toNat ≠ 0 := by
      intro h; exact hg (Or.inr (by bv_omega))
    simp only [hg, if_false, h1, h0]
    by_cases ho : s.bankA.state = .opened <;>
      simp [State.withLink, State.modifyOpen, State.modifyBank, State.setCause, State.setBank, State.openBank, State.openTag,
        State.bank, ho]

/-- An arrival at a queue with room (R13). -/
theorem State.arrive_room (s : State) (c : Fin 6) (v : BitVec 24) (h : s.main.samples.length < 32) :
    s.arrive c v = { s with main := { s.main with samples := s.main.samples ++ [⟨c, v, s.openTag⟩] } } := by
  simp [State.arrive, h]

/-- An arrival at a full queue (R14). -/
theorem State.arrive_full (s : State) (c : Fin 6) (v : BitVec 24) (h : s.main.samples.length = 32) :
    s.arrive c v = { s.setBank s.openTag { s.openBank with dropped := satInc s.openBank.dropped } with
      events := s.events.set s.monitor.supply .sampleDrop } := by
  by_cases ho : s.bankA.state = .opened <;>
    simp [State.arrive, h, State.modifyOpen, State.modifyBank, State.setCause, State.openBank, State.openTag, State.bank,
      State.setBank, ho]

/-- A sample of an enabled channel with the producer's source arrives. -/
theorem State.intake_accepted (s : State) (host : Bool) (c : Fin 6) (v : BitVec 24) (k : Cause)
    (he : s.cfg.active.channels[c].enabled = 1) (hs : (s.cfg.active.channels[c].source == 1) = host) :
    s.intake host c.val v k = s.arrive c v := by
  have he' : (s.cfg.active.channels[c.val]).enabled = 1 := he
  have hs' : ((s.cfg.active.channels[c.val]).source == 1) = host := hs
  simp only [State.intake, c.isLt, dif_pos, ChannelEntry.isEnabled, ChannelEntry.fromHost, he', hs']
  simp

/-- A sample of any other channel number is rejected. -/
theorem State.intake_rejected (s : State) (host : Bool) (n : Nat) (v : BitVec 24) (k : Cause)
    (h : ∀ c : Fin 6, n = c.val →
      s.cfg.active.channels[c].enabled ≠ 1 ∨ (s.cfg.active.channels[c].source == 1) ≠ host) :
    s.intake host n v k = s.reject k := by
  unfold State.intake
  split
  · rename_i hn
    have := h ⟨n, hn⟩ rfl
    refine if_neg ?_
    intro h2
    simp only [ChannelEntry.isEnabled, ChannelEntry.fromHost, Bool.and_eq_true, beq_iff_eq] at h2
    rcases this with h3 | h3
    · exact h3 h2.1
    · exact h3 h2.2
  · rfl

end Sys2Proof.Machine
end

