-- ==== Sys2Proof/Laws/Close.lean ====
section
/-! SUPPORT. What the close operations do, once each: an opening (R78), the trigger of a close (R77, R81, R82), the discard of the
samples (R16). -/

namespace Sys2Proof.Machine

/-! ### Banks -/

theorem State.bank_eq_of (s u : State) (ha : u.bankA = s.bankA) (hb : u.bankB = s.bankB) (t : Tag) : u.bank t = s.bank t := by
  cases t <;> simp [State.bank, ha, hb]

theorem State.openTag_eq_of (s u : State) (ha : u.bankA = s.bankA) : u.openTag = s.openTag := by simp [State.openTag, ha]

/-- The bank that opens is the OPEN one afterwards, when the other one is not OPEN. -/
theorem State.openTag_of_bank (s : State) (t : Tag) (h : (s.bank t).state = .opened) (ho : (s.bank t.other).state ≠ .opened) :
    s.openTag = t := by
  cases t
  · simp_all [State.openTag, State.bank]
  · simp_all [State.openTag, State.bank, Tag.other]

/-- The bank that is not the OPEN one is not in state OPEN, or the bank named OPEN is A. -/
theorem State.bank_other_setBank (s : State) (t u : Tag) (b : Bank) : (s.setBank t b).bank u = if u = t then b else s.bank u := by
  cases t <;> cases u <;> rfl

/-! ### Openings -/

/-- A channel copy's per-channel states (R20). -/
theorem chansOf_get (copy : Vector ChannelEntry 6) (c : Fin 6) :
    (chansOf copy)[c] = if copy[c].enabled = 1 then some ⟨0, 0, false, false, false⟩ else none := by
  have hb : ∀ e : ChannelEntry, (if e.isEnabled then some ChanState.zero else none) =
      if e.enabled = 1 then some ⟨0, 0, false, false, false⟩ else none := by
    intro e; simp [ChannelEntry.isEnabled, ChanState.zero]
  rw [← hb copy[c]]
  match c with
  | 0 => rfl
  | 1 => rfl
  | 2 => rfl
  | 3 => rfl
  | 4 => rfl
  | 5 => rfl

/-- The latest-value table without the entries of a tag (R25). -/
theorem purgeLatest_get (latest : Vector (Option Latest) 6) (t : Tag) (c : Fin 6) :
    (purgeLatest latest t)[c] = match latest[c] with
      | none => none
      | some l => if l.tag = t then none else some l := by
  have hb : ∀ o : Option Latest, (o.filter fun x => x.tag != t) = match o with
      | none => none
      | some l => if l.tag = t then none else some l := by
    intro o
    cases o with
    | none => rfl
    | some l => by_cases h : l.tag = t <;> simp [h]
  rw [← hb latest[c]]
  match c with
  | 0 => rfl
  | 1 => rfl
  | 2 => rfl
  | 3 => rfl
  | 4 => rfl
  | 5 => rfl

theorem closingFlags_eq (f : IntervalFlags) (k : Trigger) : f.atClose k = closingFlags f k := by
  obtain ⟨a, b, c, d, e, g⟩ := f
  cases k <;> cases a <;> cases c <;> cases d <;> rfl

theorem State.applies_iff (s : State) (k : Trigger) : s.applies k = true ↔ (s.cfg.commitPending = true ∨ k = .commitNow) := by
  simp [State.applies]

/-- An opening as one update (R78). -/
theorem State.opening_eq (s : State) (k : Trigger) (t : DateTime) (v : Bool) (tag : Tag) :
    s.opening k t v tag = { s.setBank tag
        (openedBank (s.activeAfter k) k t v (s.applies k) (s.monitor.supply == SupplyState.backup)) with
      cfg := if s.applies k then { s.cfg with active := s.cfg.staged, commitPending := false } else s.cfg
      events := if s.applies k then s.events.set s.monitor.supply .configApplied else s.events
      main := { s.main with latest := if s.inMain then purgeLatest s.main.latest tag else s.main.latest } } := by
  unfold State.opening State.activeAfter
  by_cases h : s.applies k = true
  · have h' := (s.applies_iff k).mp h
    simp only [h, h', if_true]
    by_cases hm : s.inMain = true
    · have hm' : s.monitor.supply = .main := by simpa [State.inMain] using hm
      cases tag <;> simp [State.inMain, hm', State.setBank, State.applyConfig, State.setCause]
    · have hm' : ¬ s.monitor.supply = .main := by simpa [State.inMain] using hm
      cases tag <;> simp [State.inMain, hm', State.setBank, State.applyConfig, State.setCause]
  · have h' : ¬(s.cfg.commitPending = true ∨ k = .commitNow) := fun hh => h ((s.applies_iff k).mpr hh)
    simp only [h', if_false]
    simp only [Bool.not_eq_true] at h
    simp only [h, Bool.false_eq_true, if_false]
    by_cases hm : s.inMain = true
    · have hm' : s.monitor.supply = .main := by simpa [State.inMain] using hm
      cases tag <;> simp [State.inMain, hm', State.setBank]
    · have hm' : ¬ s.monitor.supply = .main := by simpa [State.inMain] using hm
      cases tag <;> simp [State.inMain, hm', State.setBank]

/-- What an opening does (R78, R139, R25). -/
theorem State.opening_spec (s : State) (k : Trigger) (t : DateTime) (v : Bool) (tag : Tag) :
    s.openedAs ((s.opening k t v tag).bank tag) k t v ∧ (s.opening k t v tag).bank tag.other = s.bank tag.other ∧
    (s.opening k t v tag).ic = s.ic ∧ s.appliedAt (s.opening k t v tag) k ∧ s.latestAfter (s.opening k t v tag) tag ∧
    s.sameElsewhere (s.opening k t v tag) := by
  refine ⟨?_, ?_, by simp, ?_, ?_, by simp [State.sameElsewhere]⟩
  · have hbank : (s.opening k t v tag).bank tag =
        openedBank (s.activeAfter k) k t v (s.applies k) (s.monitor.supply == SupplyState.backup) := by
      rw [State.opening_eq]
      cases tag <;> rfl
    rw [hbank]
    refine ⟨rfl, rfl, rfl, rfl, rfl, ?_, rfl, rfl, rfl, rfl, rfl, fun c => chansOf_get _ c⟩
    simp only [openedBank, IntervalFlags.atOpening, Trigger.command, aligned, State.applies]
  · rw [State.opening_eq]
    cases tag <;> rfl
  · unfold State.appliedAt
    rw [State.opening_eq]
    by_cases h : s.cfg.commitPending = true ∨ k = .commitNow
    · have h' := (s.applies_iff k).mpr h
      simp [h, h']
    · have h' : ¬ s.applies k = true := fun hh => h ((s.applies_iff k).mp hh)
      rw [if_neg h]
      simp [h']
  · unfold State.latestAfter
    rw [State.opening_eq]
    refine ⟨rfl, fun c => ?_⟩
    dsimp only
    by_cases hs : s.monitor.supply = .main
    · rw [if_pos (by simp [State.inMain, hs]), purgeLatest_get]
      cases s.main.latest[c] <;> simp [hs]
    · rw [if_neg (by simp [State.inMain, hs])]
      simp only [hs, false_and, if_false]
      cases s.main.latest[c] <;> rfl

/-! ### The trigger of a close -/

/-- The drain check of R82. -/
theorem State.drainCheck_ic (s : State) :
    s.drainCheck.ic = { s.ic with stage :=
      if s.ic.stage = .drain ∧ ∀ x ∈ s.main.inFlight, x.tag = s.openTag then .build else s.ic.stage } := by
  have hall : (s.main.inFlight.all fun x => x.tag != s.openTag.other) = true ↔ ∀ x ∈ s.main.inFlight, x.tag = s.openTag := by
    simp only [List.all_eq_true, bne_iff_ne]
    constructor
    · intro h x hx
      rcases Tag.eq_or_other x.tag s.openTag with h2 | h2
      · exact h2
      · exact absurd h2 (h x hx)
    · intro h x hx h2
      rw [h x hx] at h2
      exact Tag.ne_other _ h2
  by_cases h : s.ic.stage = .drain ∧ ∀ x ∈ s.main.inFlight, x.tag = s.openTag
  · rw [if_pos h, State.drainCheck, if_pos ⟨h.1, hall.mpr h.2⟩]
  · rw [if_neg h, State.drainCheck, if_neg (fun hh => h ⟨hh.1, hall.mp hh.2⟩)]

/-- The OPEN bank's tag after the trigger is the tag of the bank that was FREE. -/
theorem State.openTag_triggerClose (s : State) (k : Trigger) (t : DateTime) (v : Bool) :
    (s.triggerClose k t v).openTag = s.openTag.other := by
  unfold State.triggerClose
  rw [State.openTag_eq_of _ _ (State.drainCheck_bankA _)]
  cases hT : s.openTag
  · simp only [State.modifyBank, Tag.other]
    have h := (State.opening_spec (s.setBank .a { s.bank .a with state := .closing, flags := (s.bank .a).flags.atClose k }) k t v .b)
    have h1 : ((State.opening (s.setBank .a { s.bank .a with state := .closing, flags := (s.bank .a).flags.atClose k }) k t v .b).bank
      Tag.a).state = .closing := by
      have := h.2.1
      simp only [Tag.other] at this
      rw [this]
      rfl
    have h2 : (State.opening (s.setBank .a { s.bank .a with state := .closing, flags := (s.bank .a).flags.atClose k }) k t v
      .b).bankA.state = .closing := h1
    simp [State.openTag, h2]
  · simp only [State.modifyBank, Tag.other]
    have h := (State.opening_spec (s.setBank .b { s.bank .b with state := .closing, flags := (s.bank .b).flags.atClose k }) k t v .a)
    have h1 : (State.opening (s.setBank .b { s.bank .b with state := .closing, flags := (s.bank .b).flags.atClose k }) k t v
      .a).bankA.state = .opened := h.1.1
    simp [State.openTag, h1]

theorem State.inFlight_of_main (s u : State) (h : u.main.engine = s.main.engine) (h2 : u.main.samples = s.main.samples) :
    u.main.inFlight = s.main.inFlight := by simp [MainDomain.inFlight, h, h2]

/-- What the trigger of a close does (R77, R78, R81, R82). -/
theorem State.triggerClose_spec (s : State) (k : Trigger) (t : DateTime) (v : Bool) :
    s.closeBegan (s.triggerClose k t v) k t v := by
  have hot := s.openTag_triggerClose k t v
  have hsp := (s.modifyBank s.openTag fun b => { b with state := .closing, flags := b.flags.atClose k }).opening_spec k t v s.openTag.other
  obtain ⟨h1, h2, h3, h4, h5, h6⟩ := hsp
  simp only [Tag.other_other] at h2
  have hm : (s.triggerClose k t v).main = ((s.modifyBank s.openTag fun b =>
      { b with state := .closing, flags := b.flags.atClose k }).opening k t v s.openTag.other).main := by
    simp [State.triggerClose]
  have hl : s.latestAfter (s.triggerClose k t v) s.openTag.other := by
    unfold State.latestAfter at h5 ⊢
    rw [hm]
    simpa using h5
  refine ⟨?_, ?_, ?_, ?_, hl, ?_⟩
  · have : (s.triggerClose k t v).bank s.openTag = (State.opening (s.modifyBank s.openTag fun b =>
      { b with state := .closing, flags := b.flags.atClose k }) k t v s.openTag.other).bank s.openTag := by
      apply State.bank_eq_of <;> simp [State.triggerClose]
    rw [this, h2]
    simp [State.modifyBank, closingFlags_eq]
  · have : (s.triggerClose k t v).bank s.openTag.other = (State.opening (s.modifyBank s.openTag fun b =>
      { b with state := .closing, flags := b.flags.atClose k }) k t v s.openTag.other).bank s.openTag.other := by
      apply State.bank_eq_of <;> simp [State.triggerClose]
    rw [this]
    unfold State.openedAs State.activeAfter at h1 ⊢
    simpa using h1
  · have hif : (s.triggerClose k t v).main.inFlight = s.main.inFlight := by
      apply State.inFlight_of_main <;> rw [hl.1]
    unfold State.triggerClose at hot hif ⊢
    rw [State.openTag_eq_of _ _ (State.drainCheck_bankA _)] at hot
    rw [State.drainCheck_main] at hif
    rw [State.drainCheck_ic, hot, hif]
    simp only [true_and, State.opening_ic, State.modifyBank_ic]
    congr 1
    have hex : (∀ x ∈ s.main.inFlight, x.tag = s.openTag.other) ↔ ¬ ∃ x ∈ s.main.inFlight, x.tag = s.openTag := by
      constructor
      · rintro h ⟨x, hx, hx2⟩
        rw [h x hx] at hx2
        exact Tag.other_ne _ hx2
      · intro h x hx
        rcases Tag.eq_or_other x.tag s.openTag with h2 | h2
        · exact absurd ⟨x, hx, h2⟩ h
        · exact h2
    by_cases hc : ∃ x ∈ s.main.inFlight, x.tag = s.openTag
    · rw [if_neg (fun h => (hex.mp h) hc), if_pos hc]
    · rw [if_pos (hex.mpr hc), if_neg hc]
  · unfold State.appliedAt at h4 ⊢
    simpa [State.triggerClose] using h4
  · simp [State.sameElsewhere]

/-! ### Second events -/

theorem State.secondCounted_openTag (s : State) : s.secondCounted.openTag = s.openTag := by
  cases hT : s.openTag <;> simp_all [State.secondCounted, State.openTag, State.setBank, State.openBank, State.bank]

/-- A second event is the count of the second, then the boundary where the new time is the end boundary (R39, R47, R75). -/
theorem State.secondEvent_eq (s : State) :
    s.secondEvent = if nextSecond s.cal.time = s.openBank.endBoundary then
      s.secondCounted.boundary s.secondCounted.cal.time s.secondCounted.cal.valid else s.secondCounted := by
  have h1 : (if (State.setCauseIf { s with cal := s.cal.second } (s.cal.time == DateTime.last) .timeInvalid).inMain then
      (State.setCauseIf { s with cal := s.cal.second } (s.cal.time == DateTime.last) .timeInvalid).modifyOpen
        fun b => { b with covered := satInc b.covered }
      else State.setCauseIf { s with cal := s.cal.second } (s.cal.time == DateTime.last) .timeInvalid) = s.secondCounted := by
    cases hT : s.openTag <;> by_cases hm : s.monitor.supply = .main <;> by_cases hl : s.cal.time = DateTime.last <;>
      simp [State.secondCounted, State.setCauseIf, State.modifyOpen, State.modifyBank, State.setBank, State.openBank, State.bank, hT,
        hm, hl, State.inMain, State.setCause, Calendar.second, Calendar.at, satInc_twelve] <;>
      simp [State.openTag] at hT ⊢ <;> simp [hT]
  unfold State.secondEvent
  dsimp only
  rw [h1]
  have h2 : s.secondCounted.openBank.endBoundary = s.openBank.endBoundary := by
    unfold State.openBank
    rw [State.secondCounted_openTag]
    cases hT : s.openTag <;> simp [State.secondCounted, State.setBank, State.openBank, State.bank, hT]
  rw [h2]
  rfl

end Sys2Proof.Machine
end

