-- ==== Sys2Proof/Laws/Memory.lean ====
section
/-! SUPPORT. The record memory: every operation keeps its canonical form, and a word reads back where it was written and nowhere
else. -/

namespace Sys2Proof.Machine

theorem RecordMemory.wfFrom_cons (low a : Nat) (w : Word) (rest : RecordMemory) :
    RecordMemory.wfFrom low ((a, w) :: rest) = true ↔
      low ≤ a ∧ a < 2048 ∧ w ≠ 0 ∧ RecordMemory.wfFrom (a + 1) rest = true := by
  simp [RecordMemory.wfFrom, RecordMemory.unlisted, and_assoc]

/-- A lower bound may be lowered. -/
theorem RecordMemory.wfFrom_mono {low low' : Nat} (h : low' ≤ low) :
    ∀ m : RecordMemory, RecordMemory.wfFrom low m = true → RecordMemory.wfFrom low' m = true
  | [], _ => rfl
  | (a, w) :: rest, hm => by
    rw [RecordMemory.wfFrom_cons] at hm ⊢
    exact ⟨by omega, hm.2⟩

/-- An address below the lower bound is not listed. -/
theorem RecordMemory.read_below {low : Nat} :
    ∀ (m : RecordMemory) (b : Nat), RecordMemory.wfFrom low m = true → b < low → RecordMemory.read m b = 0
  | [], _, _, _ => rfl
  | (a, w) :: rest, b, hm, hb => by
    rw [RecordMemory.wfFrom_cons] at hm
    have hne : a ≠ b := by omega
    simp only [RecordMemory.read, hne, if_false]
    exact RecordMemory.read_below rest b hm.2.2.2 (by omega)

theorem RecordMemory.entry_wf {low a : Nat} (w : Word) (rest : RecordMemory) (h1 : low ≤ a) (h2 : a < 2048)
    (h : RecordMemory.wfFrom (a + 1) rest = true) : RecordMemory.wfFrom low (RecordMemory.entry a w rest) = true := by
  unfold RecordMemory.entry
  split
  · exact RecordMemory.wfFrom_mono (by omega) rest h
  · rename_i hw
    rw [RecordMemory.wfFrom_cons]
    exact ⟨h1, h2, hw, h⟩

/-- A word put in front of higher addresses reads back, and the rest reads as before. -/
theorem RecordMemory.entry_read {a : Nat} (w : Word) (rest : RecordMemory) (h : RecordMemory.wfFrom (a + 1) rest = true) (b : Nat) :
    RecordMemory.read (RecordMemory.entry a w rest) b = if b = a then w else RecordMemory.read rest b := by
  unfold RecordMemory.entry
  split
  · rename_i hw
    split
    · rename_i hb
      rw [hb, RecordMemory.read_below rest a h (by omega), hw]
      rfl
    · rfl
  · simp only [RecordMemory.read]
    by_cases hb : b = a
    · simp [hb]
    · have : a ≠ b := fun hh => hb hh.symm
      simp [hb, this]

theorem RecordMemory.insert_wf (a : Nat) (w : Word) (ha : a < 2048) :
    ∀ (low : Nat) (m : RecordMemory), low ≤ a → RecordMemory.wfFrom low m = true →
      RecordMemory.wfFrom low (RecordMemory.insert a w m) = true
  | low, [], hl, _ => RecordMemory.entry_wf w [] hl ha rfl
  | low, (b, v) :: rest, hl, hm => by
    have hm' := (RecordMemory.wfFrom_cons low b v rest).mp hm
    unfold RecordMemory.insert
    split
    · rename_i hab
      exact RecordMemory.entry_wf w _ hl ha ((RecordMemory.wfFrom_cons _ b v rest).mpr ⟨by omega, hm'.2⟩)
    · split
      · rename_i hab
        subst hab
        exact RecordMemory.entry_wf w _ hl ha hm'.2.2.2
      · rw [RecordMemory.wfFrom_cons]
        exact ⟨hm'.1, hm'.2.1, hm'.2.2.1, RecordMemory.insert_wf a w ha (b + 1) rest (by omega) hm'.2.2.2⟩

theorem RecordMemory.insert_read (a : Nat) (w : Word) (c : Nat) :
    ∀ (low : Nat) (m : RecordMemory), RecordMemory.wfFrom low m = true →
      RecordMemory.read (RecordMemory.insert a w m) c = if c = a then w else RecordMemory.read m c
  | _, [], _ => RecordMemory.entry_read w [] rfl c
  | low, (b, v) :: rest, hm => by
    have hm' := (RecordMemory.wfFrom_cons low b v rest).mp hm
    unfold RecordMemory.insert
    split
    · rename_i hab
      exact RecordMemory.entry_read w _ ((RecordMemory.wfFrom_cons _ b v rest).mpr ⟨by omega, hm'.2⟩) c
    · split
      · rename_i hab
        subst hab
        rw [RecordMemory.entry_read w _ hm'.2.2.2 c]
        by_cases hc : c = a
        · simp [hc]
        · have : a ≠ c := fun hh => hc hh.symm
          simp [hc, RecordMemory.read, this]
      · simp only [RecordMemory.read]
        by_cases hbc : b = c
        · have hca : c ≠ a := by omega
          simp [hbc, hca]
        · simp only [hbc, if_false]
          exact RecordMemory.insert_read a w c (b + 1) rest hm'.2.2.2

/-- A write keeps the canonical form. -/
theorem RecordMemory.write_wf {m : RecordMemory} (h : m.wf = true) (a : Nat) (w : Word) : (m.write a w).wf = true :=
  RecordMemory.insert_wf _ w (Nat.mod_lt _ (by decide)) 0 m (by omega) h

/-- A read after a write: the word at its own address, every other word as before. -/
theorem RecordMemory.write_read {m : RecordMemory} (h : m.wf = true) (a : Nat) (w : Word) (b : Nat) :
    (m.write a w).read b = if b = a % 2048 then w else m.read b :=
  RecordMemory.insert_read _ w b 0 m h

/-- A run of words written keeps the canonical form. -/
theorem RecordMemory.writeWords_wf : ∀ (ws : List Word) {m : RecordMemory}, m.wf = true → ∀ a, (m.writeWords a ws).wf = true
  | [], _, h, _ => h
  | w :: ws, _, h, a => RecordMemory.writeWords_wf ws (RecordMemory.write_wf h a w) (a + 1)

/-- An address that a run of words does not reach reads as before. -/
theorem RecordMemory.writeWords_read_other : ∀ (ws : List Word) {m : RecordMemory}, m.wf = true → ∀ (a b : Nat),
    (∀ i, i < ws.length → (a + i) % 2048 ≠ b) → (m.writeWords a ws).read b = m.read b
  | [], _, _, _, _, _ => rfl
  | w :: ws, m, h, a, b, hb => by
    have h0 := hb 0 (by simp)
    rw [Nat.add_zero] at h0
    have hi : ∀ i, i < ws.length → (a + 1 + i) % 2048 ≠ b := by
      intro i hi
      have := hb (i + 1) (by simpa using hi)
      rw [show a + (i + 1) = a + 1 + i by omega] at this
      exact this
    show ((m.write a w).writeWords (a + 1) ws).read b = m.read b
    rw [RecordMemory.writeWords_read_other ws (RecordMemory.write_wf h a w) (a + 1) b hi, RecordMemory.write_read h,
      if_neg (fun hh => h0 hh.symm)]

/-- A run of at most 2048 words reads back at its own addresses. -/
theorem RecordMemory.writeWords_read : ∀ (ws : List Word) {m : RecordMemory}, m.wf = true → ws.length ≤ 2048 →
    ∀ (a i : Nat) (w : Word), ws[i]? = some w → (m.writeWords a ws).read ((a + i) % 2048) = w
  | [], _, _, _, _, _, _, hw => by simp at hw
  | v :: ws, m, h, hl, a, 0, w, hw => by
    have hvw : v = w := by simpa using hw
    subst hvw
    show ((m.write a v).writeWords (a + 1) ws).read _ = v
    simp only [List.length_cons] at hl
    rw [RecordMemory.writeWords_read_other ws (RecordMemory.write_wf h a v), RecordMemory.write_read h, Nat.add_zero, if_pos rfl]
    intro i hi
    omega
  | v :: ws, m, h, hl, a, i + 1, w, hw => by
    show ((m.write a v).writeWords (a + 1) ws).read _ = w
    simp only [List.length_cons] at hl
    rw [show a + (i + 1) = a + 1 + i by omega]
    exact RecordMemory.writeWords_read ws (RecordMemory.write_wf h a v) (by omega) (a + 1) i w (by simpa using hw)

/-- The reset memory is in canonical form. -/
theorem reset_memory_wf : State.reset.queue.mem.wf = true := rfl

end Sys2Proof.Machine
end

