-- ==== Sys2Proof/Laws/Queue.lean ====
section
/-! SUPPORT. The record queue's operations and the agreement of its values (R97, R101, R103, R112). -/

namespace Sys2Proof.Machine

/-- A record that fits, stored (R101). -/
theorem RecordQueue.put_inv {q : RecordQueue} (h : q.inv) {ws : List Word} (h5 : 5 ≤ ws.length) (h23 : ws.length ≤ 23)
    (hf : ws.length ≤ q.free) : (q.put ws).inv := by
  obtain ⟨h1, h2, h3, h4, h6, h7⟩ := h
  have hf' : q.used + ws.length ≤ 2048 := by
    have : q.used ≤ 2048 := h4
    simp only [RecordQueue.free, Config.memoryWords] at hf
    omega
  refine ⟨?_, ?_, ?_, hf', h6, ?_⟩
  · simp [RecordQueue.put, h1]
  · simp [RecordQueue.put, h2]
  · intro n hn
    simp only [RecordQueue.put, List.mem_append, List.mem_singleton] at hn
    rcases hn with hn | rfl
    · exact h3 n hn
    · exact ⟨h5, h23⟩
  · simp only [RecordQueue.put, h7, Config.memoryWords]
    omega

/-- The oldest record removed (R103, R112). -/
theorem RecordQueue.dropHead_inv {q : RecordQueue} (h : q.inv) : q.dropHead.inv := by
  obtain ⟨h1, h2, h3, h4, h6, h7⟩ := h
  unfold RecordQueue.dropHead
  split
  · exact ⟨h1, h2, h3, h4, h6, h7⟩
  · rename_i n rest hl
    simp only [Config.memoryWords] at h4 h6 h7
    rw [hl] at h1 h2 h3
    simp only [List.length_cons] at h1
    simp only [List.sum_cons] at h2
    refine ⟨?_, ?_, fun m hm => h3 m (List.mem_cons_of_mem _ hm), ?_, Nat.mod_lt _ (by decide), ?_⟩
    · show q.count - 1 = rest.length
      omega
    · show q.used - n = rest.sum
      omega
    · show q.used - n ≤ 2048
      omega
    · show q.tail = ((q.head + n) % 2048 + (q.used - n)) % 2048
      rw [h7, h2]
      omega

theorem RecordQueue.makeRoom_inv (n : Nat) : ∀ (fuel : Nat) {q : RecordQueue}, q.inv → (q.makeRoom n fuel).inv
  | 0, _, h => h
  | fuel + 1, q, h => by
    unfold RecordQueue.makeRoom
    split
    · exact h
    · exact RecordQueue.makeRoom_inv n fuel (RecordQueue.dropHead_inv h)

/-- The discards make room: their fuel is the number of records, and an empty queue has room for any record. -/
theorem RecordQueue.makeRoom_fits (n : Nat) (hn : n ≤ 23) : ∀ (fuel : Nat) {q : RecordQueue}, q.inv → q.lens.length ≤ fuel →
    n ≤ (q.makeRoom n fuel).free
  | 0, q, h, hl => by
    have h0 : q.lens = [] := by simpa using hl
    have hu : q.used = 0 := by rw [h.2.1, h0]; rfl
    simp only [RecordQueue.makeRoom, RecordQueue.free, hu, Config.memoryWords]
    omega
  | fuel + 1, q, h, hl => by
    unfold RecordQueue.makeRoom
    split
    · assumption
    · refine RecordQueue.makeRoom_fits n hn fuel (RecordQueue.dropHead_inv h) ?_
      unfold RecordQueue.dropHead
      split
      · rename_i h0
        simp [h0]
      · rename_i m rest hr
        rw [hr] at hl
        simpa using hl

/-- An offer of a record keeps the queue's values in agreement (R101 to R103). -/
theorem RecordQueue.offer_inv {q : RecordQueue} (h : q.inv) {ws : List Word} (h5 : 5 ≤ ws.length) (h23 : ws.length ≤ 23) :
    (q.offer ws).inv := by
  unfold RecordQueue.offer RecordQueue.outcome
  by_cases hf : ws.length ≤ q.free
  · simp only [hf, if_true]
    exact RecordQueue.put_inv h h5 h23 hf
  · by_cases ho : q.overwrite = true ∧ q.hold = false
    · simp only [hf, ho, if_false, if_true, and_self]
      exact RecordQueue.put_inv (RecordQueue.makeRoom_inv _ _ h) h5 h23 (RecordQueue.makeRoom_fits _ h23 _ h (Nat.le_refl _))
    · simp only [hf, ho, if_false]
      exact h

theorem RecordQueue.dropHead_fields (q : RecordQueue) : q.dropHead.hold = q.hold ∧ q.dropHead.readStatus = q.readStatus ∧
    q.dropHead.mem = q.mem ∧ q.dropHead.tail = q.tail ∧ q.dropHead.lost = q.lost ∧ q.dropHead.overwrite = q.overwrite ∧
    q.dropHead.threshold = q.threshold ∧ q.dropHead.readPtr = q.readPtr ∧ q.dropHead.runningSum = q.runningSum := by
  unfold RecordQueue.dropHead
  split <;> simp

theorem RecordQueue.makeRoom_fields (n : Nat) : ∀ (fuel : Nat) (q : RecordQueue),
    (q.makeRoom n fuel).hold = q.hold ∧ (q.makeRoom n fuel).readStatus = q.readStatus ∧ (q.makeRoom n fuel).mem = q.mem ∧
    (q.makeRoom n fuel).tail = q.tail
  | 0, _ => ⟨rfl, rfl, rfl, rfl⟩
  | fuel + 1, q => by
    unfold RecordQueue.makeRoom
    split
    · exact ⟨rfl, rfl, rfl, rfl⟩
    · have h := RecordQueue.makeRoom_fields n fuel q.dropHead
      have h' := q.dropHead_fields
      exact ⟨h.1.trans h'.1, h.2.1.trans h'.2.1, h.2.2.1.trans h'.2.2.1, h.2.2.2.trans h'.2.2.2.1⟩

/-- An offer leaves the hold and the read status, and never empties the queue under a hold. -/
theorem RecordQueue.offer_holdInv {q : RecordQueue} (h : q.holdInv) (ws : List Word) : (q.offer ws).holdInv := by
  unfold RecordQueue.offer RecordQueue.outcome
  by_cases hf : ws.length ≤ q.free
  · simp only [hf, if_true]
    exact ⟨h.1, fun _ => by simp [RecordQueue.put]⟩
  · by_cases ho : q.overwrite = true ∧ q.hold = false
    · simp only [hf, ho, if_false, if_true, and_self]
      have hm := RecordQueue.makeRoom_fields ws.length q.lens.length q
      exact ⟨by simp only [RecordQueue.put, hm.1, hm.2.1]; exact h.1, fun _ => by simp [RecordQueue.put]⟩
    · simp only [hf, ho, if_false]
      exact h

/-- An offer keeps the record memory in canonical form. -/
theorem RecordQueue.offer_wf {q : RecordQueue} (h : q.mem.wf = true) (ws : List Word) : (q.offer ws).mem.wf = true := by
  unfold RecordQueue.offer
  split
  · exact RecordMemory.writeWords_wf ws h q.tail
  · have hm := RecordQueue.makeRoom_fields ws.length q.lens.length q
    show ((q.makeRoom ws.length q.lens.length).mem.writeWords _ ws).wf = true
    rw [hm.2.2.1]
    exact RecordMemory.writeWords_wf ws h _
  · exact h

theorem RecordQueue.endHold_holdInv (q : RecordQueue) : q.endHold.holdInv := by
  simp [RecordQueue.holdInv, RecordQueue.endHold]

/-- The length of a record in words (R98). -/
theorem Record.words_length (r : Record) : r.words.length = 5 + 3 * r.entries.length := by
  have : ∀ es : List RecordEntry, (es.flatMap RecordEntry.words).length = 3 * es.length := by
    intro es
    induction es with
    | nil => rfl
    | cons e es ih =>
      simp only [List.flatMap_cons, List.length_append, ih, List.length_cons]
      simp only [RecordEntry.words, List.length_cons, List.length_nil]
      omega
  simp only [Record.words, List.length_append, this, List.length_cons, List.length_nil]

/-- A bank's record has at most six channel entries (R98). -/
theorem Bank.recordEntries_length (b : Bank) : b.recordEntries.length ≤ 6 := by
  unfold Bank.recordEntries
  exact Nat.le_trans (List.length_filterMap_le _ _) (by simp)

end Sys2Proof.Machine
end

