-- ==== Sys2Proof/Laws/Completion.lean ====
section
/-! SUPPORT. What an offer to the record queue, the completion of a close and a missed interval do, once each, in the terms of the
statements (R86, R87, R101 to R105, R148, R152). -/

namespace Sys2Proof.Machine

/-- An offer fits exactly when its words and the used ones are at most 2048 (R101). -/
theorem RecordQueue.outcome_stored_iff (q : RecordQueue) {n : Nat} (h : 1 ≤ n) : q.outcome n = .stored ↔ q.used + n ≤ 2048 := by
  unfold RecordQueue.outcome RecordQueue.free
  have h2048 : Config.memoryWords = 2048 := rfl
  constructor
  · intro hs
    split at hs
    · omega
    · split at hs <;> cases hs
  · intro hs
    rw [if_pos (by omega)]

/-- What an offer does (R101 to R105). -/
theorem State.offerRecord_eq (s : State) (r : Record) : s.offerRecord r = s.tookOffer r := by
  have h := s.queue.outcome_stored_iff (n := r.words.length) (by rw [Record.words_length]; omega)
  unfold State.offerRecord State.tookOffer RecordQueue.losesAt RecordQueue.reachesLevel
  by_cases hf : s.queue.used + r.words.length ≤ 2048
  · have hb : (s.queue.threshold != 0 && s.queue.count + 1 == s.queue.threshold.toNat) =
        decide (s.queue.threshold ≠ 0 ∧ s.queue.count + 1 = s.queue.threshold.toNat) := by
      rw [Bool.eq_iff_iff]; simp
    simp only [h.mpr hf, hf, if_true, bne_self_eq_false, beq_self_eq_true, Bool.true_and, hb, State.setCauseIf, Bool.false_eq_true,
      if_false, decide_eq_true_eq, State.setCause]
    split <;> rfl
  · have hn : s.queue.outcome r.words.length ≠ .stored := fun hh => hf (h.mp hh)
    simp [hn, hf, State.setCauseIf, State.setCause]

/-- The GAP record of R152, where one is due and there is something to report. -/
theorem State.buildDueGap_of_idle (s : State) (h : s.ic.stage = .idle) : s.buildDueGap =
    match s.ic.gapDue, s.ic.firstMissed with
    | true, some f => State.tookOffer { s with ic := { s.ic with
        nextSeq := s.ic.nextSeq + 1, anyBuilt := true, missed := 0, firstMissed := none, gapDue := false } }
        (gapRecord f s.ic.missed s.ic.nextSeq s.queue.lost)
    | _, _ => s := by
  unfold State.buildDueGap State.buildGap
  cases hg : s.ic.gapDue <;> cases hf : s.ic.firstMissed <;> simp [h, State.offerRecord_eq]

/-- Where no GAP record is built at once, it stays due (R152). -/
theorem State.buildDueGap_of_busy (s : State) (h : s.ic.stage ≠ .idle) : s.buildDueGap = s := by
  simp [State.buildDueGap, h]

/-- STORE and the completion of the close are the offer, the end of the close, the GAP record that is due and the release of a
deferred boundary, in this order (R86, R87, R152). -/
theorem State.storeStage_eq (s : State) (r : Record) (h : s.ic.built = some r) :
    s.storeStage = (s.tookOffer r).closeDone.buildDueGap.releaseDeferred := by
  simp [State.storeStage, h, State.offerRecord_eq, State.completeClose, State.closeDone, State.modifyBank, State.setCause]

/-- What the end of a missed interval does (R148). -/
theorem State.missInterval_spec (s : State) (t : DateTime) (v : Bool) : s.missEnded (s.missInterval t v) t v := by
  unfold State.missInterval State.missEnded
  set m : State := { s with ic := { s.ic with
    firstMissed := some (s.ic.firstMissed.getD ⟨s.openBank.start.stamp, s.openBank.nominal, s.openBank.flags.timeInv⟩)
    missed := satInc s.ic.missed } } with hm
  obtain ⟨h1, h2, h3, h4, h5, h6⟩ := m.opening_spec .boundary t v s.openTag
  refine ⟨h1, h2, ?_, h4, h5, h6⟩
  rw [show (State.opening m .boundary t v s.openTag).ic = m.ic from h3, hm]
  cases s.ic.firstMissed <;> rfl

end Sys2Proof.Machine
end

