-- ==== Sys2Proof/Laws/Fields.lean ====
section
/-! SUPPORT. What each shared operation leaves unchanged inside the interval controller and the main domain, field by field. -/

namespace Sys2Proof.Machine

@[simp] theorem State.drainCheck_ic_built (s : State) : (s.drainCheck).ic.built = s.ic.built := by unfold State.drainCheck; split <;> rfl
@[simp] theorem State.drainCheck_ic_deferred (s : State) : (s.drainCheck).ic.deferred = s.ic.deferred := by unfold State.drainCheck; split <;> rfl
@[simp] theorem State.drainCheck_ic_nextSeq (s : State) : (s.drainCheck).ic.nextSeq = s.ic.nextSeq := by unfold State.drainCheck; split <;> rfl
@[simp] theorem State.drainCheck_ic_anyBuilt (s : State) : (s.drainCheck).ic.anyBuilt = s.ic.anyBuilt := by unfold State.drainCheck; split <;> rfl
@[simp] theorem State.drainCheck_ic_backupBoundary (s : State) : (s.drainCheck).ic.backupBoundary = s.ic.backupBoundary := by unfold State.drainCheck; split <;> rfl
@[simp] theorem State.drainCheck_ic_missed (s : State) : (s.drainCheck).ic.missed = s.ic.missed := by unfold State.drainCheck; split <;> rfl
@[simp] theorem State.drainCheck_ic_firstMissed (s : State) : (s.drainCheck).ic.firstMissed = s.ic.firstMissed := by unfold State.drainCheck; split <;> rfl
@[simp] theorem State.drainCheck_ic_gapDue (s : State) : (s.drainCheck).ic.gapDue = s.ic.gapDue := by unfold State.drainCheck; split <;> rfl

@[simp] theorem State.deferBoundary_ic_stage (s : State) (t : DateTime) (v : Bool) : (s.deferBoundary t v).ic.stage = s.ic.stage := rfl
@[simp] theorem State.deferBoundary_ic_built (s : State) (t : DateTime) (v : Bool) : (s.deferBoundary t v).ic.built = s.ic.built := rfl
@[simp] theorem State.deferBoundary_ic_nextSeq (s : State) (t : DateTime) (v : Bool) : (s.deferBoundary t v).ic.nextSeq = s.ic.nextSeq := rfl
@[simp] theorem State.deferBoundary_ic_anyBuilt (s : State) (t : DateTime) (v : Bool) : (s.deferBoundary t v).ic.anyBuilt = s.ic.anyBuilt := rfl
@[simp] theorem State.deferBoundary_ic_missed (s : State) (t : DateTime) (v : Bool) : (s.deferBoundary t v).ic.missed = s.ic.missed := rfl
@[simp] theorem State.deferBoundary_ic_firstMissed (s : State) (t : DateTime) (v : Bool) : (s.deferBoundary t v).ic.firstMissed = s.ic.firstMissed := rfl
@[simp] theorem State.deferBoundary_ic_gapDue (s : State) (t : DateTime) (v : Bool) : (s.deferBoundary t v).ic.gapDue = s.ic.gapDue := rfl

@[simp] theorem State.triggerClose_ic_built (s : State) (k : Trigger) (t : DateTime) (v : Bool) : (s.triggerClose k t v).ic.built = s.ic.built := by simp [State.triggerClose]
@[simp] theorem State.triggerClose_ic_deferred (s : State) (k : Trigger) (t : DateTime) (v : Bool) : (s.triggerClose k t v).ic.deferred = s.ic.deferred := by simp [State.triggerClose]
@[simp] theorem State.triggerClose_ic_nextSeq (s : State) (k : Trigger) (t : DateTime) (v : Bool) : (s.triggerClose k t v).ic.nextSeq = s.ic.nextSeq := by simp [State.triggerClose]
@[simp] theorem State.triggerClose_ic_anyBuilt (s : State) (k : Trigger) (t : DateTime) (v : Bool) : (s.triggerClose k t v).ic.anyBuilt = s.ic.anyBuilt := by simp [State.triggerClose]
@[simp] theorem State.triggerClose_ic_backupBoundary (s : State) (k : Trigger) (t : DateTime) (v : Bool) : (s.triggerClose k t v).ic.backupBoundary = s.ic.backupBoundary := by simp [State.triggerClose]
@[simp] theorem State.triggerClose_ic_missed (s : State) (k : Trigger) (t : DateTime) (v : Bool) : (s.triggerClose k t v).ic.missed = s.ic.missed := by simp [State.triggerClose]
@[simp] theorem State.triggerClose_ic_firstMissed (s : State) (k : Trigger) (t : DateTime) (v : Bool) : (s.triggerClose k t v).ic.firstMissed = s.ic.firstMissed := by simp [State.triggerClose]
@[simp] theorem State.triggerClose_ic_gapDue (s : State) (k : Trigger) (t : DateTime) (v : Bool) : (s.triggerClose k t v).ic.gapDue = s.ic.gapDue := by simp [State.triggerClose]

@[simp] theorem State.missInterval_ic_stage (s : State) (t : DateTime) (v : Bool) : (s.missInterval t v).ic.stage = s.ic.stage := by simp [State.missInterval]
@[simp] theorem State.missInterval_ic_built (s : State) (t : DateTime) (v : Bool) : (s.missInterval t v).ic.built = s.ic.built := by simp [State.missInterval]
@[simp] theorem State.missInterval_ic_deferred (s : State) (t : DateTime) (v : Bool) : (s.missInterval t v).ic.deferred = s.ic.deferred := by simp [State.missInterval]
@[simp] theorem State.missInterval_ic_nextSeq (s : State) (t : DateTime) (v : Bool) : (s.missInterval t v).ic.nextSeq = s.ic.nextSeq := by simp [State.missInterval]
@[simp] theorem State.missInterval_ic_anyBuilt (s : State) (t : DateTime) (v : Bool) : (s.missInterval t v).ic.anyBuilt = s.ic.anyBuilt := by simp [State.missInterval]
@[simp] theorem State.missInterval_ic_backupBoundary (s : State) (t : DateTime) (v : Bool) : (s.missInterval t v).ic.backupBoundary = s.ic.backupBoundary := by simp [State.missInterval]
@[simp] theorem State.missInterval_ic_gapDue (s : State) (t : DateTime) (v : Bool) : (s.missInterval t v).ic.gapDue = s.ic.gapDue := by simp [State.missInterval]

@[simp] theorem State.actOnBoundary_ic_built (s : State) (t : DateTime) (v : Bool) (x : SupplyState) (f : BackupBoundary) : (s.actOnBoundary t v x f).ic.built = s.ic.built := by unfold State.actOnBoundary; split <;> simp
@[simp] theorem State.actOnBoundary_ic_deferred (s : State) (t : DateTime) (v : Bool) (x : SupplyState) (f : BackupBoundary) : (s.actOnBoundary t v x f).ic.deferred = s.ic.deferred := by unfold State.actOnBoundary; split <;> simp
@[simp] theorem State.actOnBoundary_ic_nextSeq (s : State) (t : DateTime) (v : Bool) (x : SupplyState) (f : BackupBoundary) : (s.actOnBoundary t v x f).ic.nextSeq = s.ic.nextSeq := by unfold State.actOnBoundary; split <;> simp
@[simp] theorem State.actOnBoundary_ic_anyBuilt (s : State) (t : DateTime) (v : Bool) (x : SupplyState) (f : BackupBoundary) : (s.actOnBoundary t v x f).ic.anyBuilt = s.ic.anyBuilt := by unfold State.actOnBoundary; split <;> simp
@[simp] theorem State.actOnBoundary_ic_gapDue (s : State) (t : DateTime) (v : Bool) (x : SupplyState) (f : BackupBoundary) : (s.actOnBoundary t v x f).ic.gapDue = s.ic.gapDue := by unfold State.actOnBoundary; split <;> simp

@[simp] theorem State.boundary_ic_built (s : State) (t : DateTime) (v : Bool) : (s.boundary t v).ic.built = s.ic.built := by unfold State.boundary; split <;> simp
@[simp] theorem State.boundary_ic_nextSeq (s : State) (t : DateTime) (v : Bool) : (s.boundary t v).ic.nextSeq = s.ic.nextSeq := by unfold State.boundary; split <;> simp
@[simp] theorem State.boundary_ic_anyBuilt (s : State) (t : DateTime) (v : Bool) : (s.boundary t v).ic.anyBuilt = s.ic.anyBuilt := by unfold State.boundary; split <;> simp
@[simp] theorem State.boundary_ic_gapDue (s : State) (t : DateTime) (v : Bool) : (s.boundary t v).ic.gapDue = s.ic.gapDue := by unfold State.boundary; split <;> simp

@[simp] theorem State.secondEvent_ic_built (s : State) : (s.secondEvent).ic.built = s.ic.built := by unfold State.secondEvent; dsimp only; split <;> split <;> simp
@[simp] theorem State.secondEvent_ic_nextSeq (s : State) : (s.secondEvent).ic.nextSeq = s.ic.nextSeq := by unfold State.secondEvent; dsimp only; split <;> split <;> simp
@[simp] theorem State.secondEvent_ic_anyBuilt (s : State) : (s.secondEvent).ic.anyBuilt = s.ic.anyBuilt := by unfold State.secondEvent; dsimp only; split <;> split <;> simp
@[simp] theorem State.secondEvent_ic_gapDue (s : State) : (s.secondEvent).ic.gapDue = s.ic.gapDue := by unfold State.secondEvent; dsimp only; split <;> split <;> simp

@[simp] theorem State.discardSamples_ic_built (s : State) : (s.discardSamples).ic.built = s.ic.built := by simp [State.discardSamples]
@[simp] theorem State.discardSamples_ic_deferred (s : State) : (s.discardSamples).ic.deferred = s.ic.deferred := by simp [State.discardSamples]
@[simp] theorem State.discardSamples_ic_nextSeq (s : State) : (s.discardSamples).ic.nextSeq = s.ic.nextSeq := by simp [State.discardSamples]
@[simp] theorem State.discardSamples_ic_anyBuilt (s : State) : (s.discardSamples).ic.anyBuilt = s.ic.anyBuilt := by simp [State.discardSamples]
@[simp] theorem State.discardSamples_ic_backupBoundary (s : State) : (s.discardSamples).ic.backupBoundary = s.ic.backupBoundary := by simp [State.discardSamples]
@[simp] theorem State.discardSamples_ic_missed (s : State) : (s.discardSamples).ic.missed = s.ic.missed := by simp [State.discardSamples]
@[simp] theorem State.discardSamples_ic_firstMissed (s : State) : (s.discardSamples).ic.firstMissed = s.ic.firstMissed := by simp [State.discardSamples]
@[simp] theorem State.discardSamples_ic_gapDue (s : State) : (s.discardSamples).ic.gapDue = s.ic.gapDue := by simp [State.discardSamples]

@[simp] theorem State.buildGap_ic_stage (s : State) : (s.buildGap).ic.stage = s.ic.stage := by unfold State.buildGap; split <;> simp
@[simp] theorem State.buildGap_ic_built (s : State) : (s.buildGap).ic.built = s.ic.built := by unfold State.buildGap; split <;> simp
@[simp] theorem State.buildGap_ic_deferred (s : State) : (s.buildGap).ic.deferred = s.ic.deferred := by unfold State.buildGap; split <;> simp
@[simp] theorem State.buildGap_ic_backupBoundary (s : State) : (s.buildGap).ic.backupBoundary = s.ic.backupBoundary := by unfold State.buildGap; split <;> simp

@[simp] theorem State.buildDueGap_ic_stage (s : State) : (s.buildDueGap).ic.stage = s.ic.stage := by unfold State.buildDueGap; split <;> simp
@[simp] theorem State.buildDueGap_ic_built (s : State) : (s.buildDueGap).ic.built = s.ic.built := by unfold State.buildDueGap; split <;> simp
@[simp] theorem State.buildDueGap_ic_deferred (s : State) : (s.buildDueGap).ic.deferred = s.ic.deferred := by unfold State.buildDueGap; split <;> simp
@[simp] theorem State.buildDueGap_ic_backupBoundary (s : State) : (s.buildDueGap).ic.backupBoundary = s.ic.backupBoundary := by unfold State.buildDueGap; split <;> simp

@[simp] theorem State.releaseDeferred_ic_built (s : State) : (s.releaseDeferred).ic.built = s.ic.built := by unfold State.releaseDeferred; split <;> simp
@[simp] theorem State.releaseDeferred_ic_nextSeq (s : State) : (s.releaseDeferred).ic.nextSeq = s.ic.nextSeq := by unfold State.releaseDeferred; split <;> simp
@[simp] theorem State.releaseDeferred_ic_anyBuilt (s : State) : (s.releaseDeferred).ic.anyBuilt = s.ic.anyBuilt := by unfold State.releaseDeferred; split <;> simp
@[simp] theorem State.releaseDeferred_ic_gapDue (s : State) : (s.releaseDeferred).ic.gapDue = s.ic.gapDue := by unfold State.releaseDeferred; split <;> simp

@[simp] theorem State.opening_main_link (s : State) (k : Trigger) (t : DateTime) (v : Bool) (tag : Tag) : (s.opening k t v tag).main.link = s.main.link := by simp [State.opening_eq]
@[simp] theorem State.opening_main_group (s : State) (k : Trigger) (t : DateTime) (v : Bool) (tag : Tag) : (s.opening k t v tag).main.group = s.main.group := by simp [State.opening_eq]
@[simp] theorem State.opening_main_samples (s : State) (k : Trigger) (t : DateTime) (v : Bool) (tag : Tag) : (s.opening k t v tag).main.samples = s.main.samples := by simp [State.opening_eq]
@[simp] theorem State.opening_main_engine (s : State) (k : Trigger) (t : DateTime) (v : Bool) (tag : Tag) : (s.opening k t v tag).main.engine = s.main.engine := by simp [State.opening_eq]
@[simp] theorem State.opening_main_image (s : State) (k : Trigger) (t : DateTime) (v : Bool) (tag : Tag) : (s.opening k t v tag).main.image = s.main.image := by simp [State.opening_eq]
@[simp] theorem State.opening_main_snapItem (s : State) (k : Trigger) (t : DateTime) (v : Bool) (tag : Tag) : (s.opening k t v tag).main.snapItem = s.main.snapItem := by simp [State.opening_eq]
@[simp] theorem State.opening_main_timeLoad (s : State) (k : Trigger) (t : DateTime) (v : Bool) (tag : Tag) : (s.opening k t v tag).main.timeLoad = s.main.timeLoad := by simp [State.opening_eq]
@[simp] theorem State.opening_main_win (s : State) (k : Trigger) (t : DateTime) (v : Bool) (tag : Tag) : (s.opening k t v tag).main.win = s.main.win := by simp [State.opening_eq]
@[simp] theorem State.opening_main_cmd (s : State) (k : Trigger) (t : DateTime) (v : Bool) (tag : Tag) : (s.opening k t v tag).main.cmd = s.main.cmd := by simp [State.opening_eq]

@[simp] theorem State.triggerClose_main_link (s : State) (k : Trigger) (t : DateTime) (v : Bool) : (s.triggerClose k t v).main.link = s.main.link := by simp [State.triggerClose]
@[simp] theorem State.triggerClose_main_group (s : State) (k : Trigger) (t : DateTime) (v : Bool) : (s.triggerClose k t v).main.group = s.main.group := by simp [State.triggerClose]
@[simp] theorem State.triggerClose_main_samples (s : State) (k : Trigger) (t : DateTime) (v : Bool) : (s.triggerClose k t v).main.samples = s.main.samples := by simp [State.triggerClose]
@[simp] theorem State.triggerClose_main_engine (s : State) (k : Trigger) (t : DateTime) (v : Bool) : (s.triggerClose k t v).main.engine = s.main.engine := by simp [State.triggerClose]
@[simp] theorem State.triggerClose_main_image (s : State) (k : Trigger) (t : DateTime) (v : Bool) : (s.triggerClose k t v).main.image = s.main.image := by simp [State.triggerClose]
@[simp] theorem State.triggerClose_main_snapItem (s : State) (k : Trigger) (t : DateTime) (v : Bool) : (s.triggerClose k t v).main.snapItem = s.main.snapItem := by simp [State.triggerClose]
@[simp] theorem State.triggerClose_main_timeLoad (s : State) (k : Trigger) (t : DateTime) (v : Bool) : (s.triggerClose k t v).main.timeLoad = s.main.timeLoad := by simp [State.triggerClose]
@[simp] theorem State.triggerClose_main_win (s : State) (k : Trigger) (t : DateTime) (v : Bool) : (s.triggerClose k t v).main.win = s.main.win := by simp [State.triggerClose]
@[simp] theorem State.triggerClose_main_cmd (s : State) (k : Trigger) (t : DateTime) (v : Bool) : (s.triggerClose k t v).main.cmd = s.main.cmd := by simp [State.triggerClose]

@[simp] theorem State.missInterval_main_link (s : State) (t : DateTime) (v : Bool) : (s.missInterval t v).main.link = s.main.link := by simp [State.missInterval]
@[simp] theorem State.missInterval_main_group (s : State) (t : DateTime) (v : Bool) : (s.missInterval t v).main.group = s.main.group := by simp [State.missInterval]
@[simp] theorem State.missInterval_main_samples (s : State) (t : DateTime) (v : Bool) : (s.missInterval t v).main.samples = s.main.samples := by simp [State.missInterval]
@[simp] theorem State.missInterval_main_engine (s : State) (t : DateTime) (v : Bool) : (s.missInterval t v).main.engine = s.main.engine := by simp [State.missInterval]
@[simp] theorem State.missInterval_main_image (s : State) (t : DateTime) (v : Bool) : (s.missInterval t v).main.image = s.main.image := by simp [State.missInterval]
@[simp] theorem State.missInterval_main_snapItem (s : State) (t : DateTime) (v : Bool) : (s.missInterval t v).main.snapItem = s.main.snapItem := by simp [State.missInterval]
@[simp] theorem State.missInterval_main_timeLoad (s : State) (t : DateTime) (v : Bool) : (s.missInterval t v).main.timeLoad = s.main.timeLoad := by simp [State.missInterval]
@[simp] theorem State.missInterval_main_win (s : State) (t : DateTime) (v : Bool) : (s.missInterval t v).main.win = s.main.win := by simp [State.missInterval]
@[simp] theorem State.missInterval_main_cmd (s : State) (t : DateTime) (v : Bool) : (s.missInterval t v).main.cmd = s.main.cmd := by simp [State.missInterval]

@[simp] theorem State.actOnBoundary_main_link (s : State) (t : DateTime) (v : Bool) (x : SupplyState) (f : BackupBoundary) : (s.actOnBoundary t v x f).main.link = s.main.link := by unfold State.actOnBoundary; split <;> simp
@[simp] theorem State.actOnBoundary_main_group (s : State) (t : DateTime) (v : Bool) (x : SupplyState) (f : BackupBoundary) : (s.actOnBoundary t v x f).main.group = s.main.group := by unfold State.actOnBoundary; split <;> simp
@[simp] theorem State.actOnBoundary_main_samples (s : State) (t : DateTime) (v : Bool) (x : SupplyState) (f : BackupBoundary) : (s.actOnBoundary t v x f).main.samples = s.main.samples := by unfold State.actOnBoundary; split <;> simp
@[simp] theorem State.actOnBoundary_main_engine (s : State) (t : DateTime) (v : Bool) (x : SupplyState) (f : BackupBoundary) : (s.actOnBoundary t v x f).main.engine = s.main.engine := by unfold State.actOnBoundary; split <;> simp
@[simp] theorem State.actOnBoundary_main_image (s : State) (t : DateTime) (v : Bool) (x : SupplyState) (f : BackupBoundary) : (s.actOnBoundary t v x f).main.image = s.main.image := by unfold State.actOnBoundary; split <;> simp
@[simp] theorem State.actOnBoundary_main_snapItem (s : State) (t : DateTime) (v : Bool) (x : SupplyState) (f : BackupBoundary) : (s.actOnBoundary t v x f).main.snapItem = s.main.snapItem := by unfold State.actOnBoundary; split <;> simp
@[simp] theorem State.actOnBoundary_main_timeLoad (s : State) (t : DateTime) (v : Bool) (x : SupplyState) (f : BackupBoundary) : (s.actOnBoundary t v x f).main.timeLoad = s.main.timeLoad := by unfold State.actOnBoundary; split <;> simp
@[simp] theorem State.actOnBoundary_main_win (s : State) (t : DateTime) (v : Bool) (x : SupplyState) (f : BackupBoundary) : (s.actOnBoundary t v x f).main.win = s.main.win := by unfold State.actOnBoundary; split <;> simp
@[simp] theorem State.actOnBoundary_main_cmd (s : State) (t : DateTime) (v : Bool) (x : SupplyState) (f : BackupBoundary) : (s.actOnBoundary t v x f).main.cmd = s.main.cmd := by unfold State.actOnBoundary; split <;> simp

@[simp] theorem State.boundary_main_link (s : State) (t : DateTime) (v : Bool) : (s.boundary t v).main.link = s.main.link := by unfold State.boundary; split <;> simp
@[simp] theorem State.boundary_main_group (s : State) (t : DateTime) (v : Bool) : (s.boundary t v).main.group = s.main.group := by unfold State.boundary; split <;> simp
@[simp] theorem State.boundary_main_samples (s : State) (t : DateTime) (v : Bool) : (s.boundary t v).main.samples = s.main.samples := by unfold State.boundary; split <;> simp
@[simp] theorem State.boundary_main_engine (s : State) (t : DateTime) (v : Bool) : (s.boundary t v).main.engine = s.main.engine := by unfold State.boundary; split <;> simp
@[simp] theorem State.boundary_main_image (s : State) (t : DateTime) (v : Bool) : (s.boundary t v).main.image = s.main.image := by unfold State.boundary; split <;> simp
@[simp] theorem State.boundary_main_snapItem (s : State) (t : DateTime) (v : Bool) : (s.boundary t v).main.snapItem = s.main.snapItem := by unfold State.boundary; split <;> simp
@[simp] theorem State.boundary_main_timeLoad (s : State) (t : DateTime) (v : Bool) : (s.boundary t v).main.timeLoad = s.main.timeLoad := by unfold State.boundary; split <;> simp
@[simp] theorem State.boundary_main_win (s : State) (t : DateTime) (v : Bool) : (s.boundary t v).main.win = s.main.win := by unfold State.boundary; split <;> simp
@[simp] theorem State.boundary_main_cmd (s : State) (t : DateTime) (v : Bool) : (s.boundary t v).main.cmd = s.main.cmd := by unfold State.boundary; split <;> simp

@[simp] theorem State.secondEvent_main_link (s : State) : (s.secondEvent).main.link = s.main.link := by unfold State.secondEvent; dsimp only; split <;> split <;> simp
@[simp] theorem State.secondEvent_main_group (s : State) : (s.secondEvent).main.group = s.main.group := by unfold State.secondEvent; dsimp only; split <;> split <;> simp
@[simp] theorem State.secondEvent_main_samples (s : State) : (s.secondEvent).main.samples = s.main.samples := by unfold State.secondEvent; dsimp only; split <;> split <;> simp
@[simp] theorem State.secondEvent_main_engine (s : State) : (s.secondEvent).main.engine = s.main.engine := by unfold State.secondEvent; dsimp only; split <;> split <;> simp
@[simp] theorem State.secondEvent_main_image (s : State) : (s.secondEvent).main.image = s.main.image := by unfold State.secondEvent; dsimp only; split <;> split <;> simp
@[simp] theorem State.secondEvent_main_snapItem (s : State) : (s.secondEvent).main.snapItem = s.main.snapItem := by unfold State.secondEvent; dsimp only; split <;> split <;> simp
@[simp] theorem State.secondEvent_main_timeLoad (s : State) : (s.secondEvent).main.timeLoad = s.main.timeLoad := by unfold State.secondEvent; dsimp only; split <;> split <;> simp
@[simp] theorem State.secondEvent_main_win (s : State) : (s.secondEvent).main.win = s.main.win := by unfold State.secondEvent; dsimp only; split <;> split <;> simp
@[simp] theorem State.secondEvent_main_cmd (s : State) : (s.secondEvent).main.cmd = s.main.cmd := by unfold State.secondEvent; dsimp only; split <;> split <;> simp

@[simp] theorem State.releaseDeferred_main_link (s : State) : (s.releaseDeferred).main.link = s.main.link := by unfold State.releaseDeferred; split <;> simp
@[simp] theorem State.releaseDeferred_main_group (s : State) : (s.releaseDeferred).main.group = s.main.group := by unfold State.releaseDeferred; split <;> simp
@[simp] theorem State.releaseDeferred_main_samples (s : State) : (s.releaseDeferred).main.samples = s.main.samples := by unfold State.releaseDeferred; split <;> simp
@[simp] theorem State.releaseDeferred_main_engine (s : State) : (s.releaseDeferred).main.engine = s.main.engine := by unfold State.releaseDeferred; split <;> simp
@[simp] theorem State.releaseDeferred_main_image (s : State) : (s.releaseDeferred).main.image = s.main.image := by unfold State.releaseDeferred; split <;> simp
@[simp] theorem State.releaseDeferred_main_snapItem (s : State) : (s.releaseDeferred).main.snapItem = s.main.snapItem := by unfold State.releaseDeferred; split <;> simp
@[simp] theorem State.releaseDeferred_main_timeLoad (s : State) : (s.releaseDeferred).main.timeLoad = s.main.timeLoad := by unfold State.releaseDeferred; split <;> simp
@[simp] theorem State.releaseDeferred_main_win (s : State) : (s.releaseDeferred).main.win = s.main.win := by unfold State.releaseDeferred; split <;> simp
@[simp] theorem State.releaseDeferred_main_cmd (s : State) : (s.releaseDeferred).main.cmd = s.main.cmd := by unfold State.releaseDeferred; split <;> simp

@[simp] theorem State.creditRecord_frame (s : State) (r : Record) :
    (s.creditRecord r).ic = s.ic ∧ (s.creditRecord r).queue = s.queue ∧ (s.creditRecord r).cfg = s.cfg ∧
    (s.creditRecord r).cal = s.cal ∧ (s.creditRecord r).bankA = s.bankA ∧ (s.creditRecord r).bankB = s.bankB ∧
    (s.creditRecord r).main = s.main ∧ (s.creditRecord r).monitor = s.monitor := by
  unfold State.creditRecord
  induction r.entries generalizing s with
  | nil => simp
  | cons e es ih =>
    have := ih (s.creditEntry r e)
    simpa using this

end Sys2Proof.Machine
end

