-- ==== Sys2Proof/Laws/Registers.lean ====
section
/-! SUPPORT. Numbers and their bytes, and how a register is shown to read as a number (section 12.2, R172). -/

namespace Sys2Proof.Machine

theorem beBytes_length (n v : Nat) : (beBytes n v).length = n := by simp [beBytes]

/-- The first byte of a number is its most significant one. -/
theorem beBytes_succ (n v : Nat) : beBytes (n + 1) v = BitVec.ofNat 8 (v >>> (8 * n)) :: beBytes n v := by
  simp only [beBytes, List.range_succ_eq_map, List.map_cons, List.map_map]
  congr 1
  refine List.map_congr_left fun i _ => ?_
  simp only [Function.comp_def, Nat.succ_eq_add_one]
  congr 3
  omega

/-- A first byte counts 256 to the number of bytes after it. -/
theorem bigEndian_cons (b : Byte) (bytes : List Byte) :
    bigEndian (b :: bytes) = b.toNat * 256 ^ bytes.length + bigEndian bytes := by
  have h : ∀ (bs : List Byte) (n : Nat),
      bs.foldl (fun n b => 256 * n + b.toNat) n = n * 256 ^ bs.length + bs.foldl (fun n b => 256 * n + b.toNat) 0 := by
    intro bs
    induction bs with
    | nil => intro n; simp
    | cons c cs ih =>
      intro n
      simp only [List.foldl_cons, List.length_cons]
      rw [ih (256 * n + c.toNat), ih (256 * 0 + c.toNat)]
      ring
  simp only [bigEndian, List.foldl_cons]
  rw [h bytes]
  ring

/-- A number's bytes spell it again, modulo what they can hold. -/
theorem bigEndian_beBytes (n v : Nat) : bigEndian (beBytes n v) = v % 256 ^ n := by
  induction n with
  | zero => simp [beBytes, bigEndian, Nat.mod_one]
  | succ n ih =>
    have h256 : (2 : Nat) ^ (8 * n) = 256 ^ n := by rw [pow_mul]; norm_num
    rw [beBytes_succ, bigEndian_cons, ih, beBytes_length, BitVec.toNat_ofNat, Nat.shiftRight_eq_div_pow, h256,
      show 256 ^ (n + 1) = 256 ^ n * 256 from pow_succ _ _, Nat.mod_mul, Nat.mul_comm, Nat.add_comm]

theorem bigEndian_byteOf (n : Nat) : bigEndian [byteOf n] = n % 256 ^ 1 := by simp [bigEndian, byteOf]

theorem bigEndian_byte (b : Byte) : bigEndian [b] = b.toNat % 256 ^ 1 := by
  have := b.isLt
  simp [bigEndian]
  omega

/-- A register reads as a number that its bytes spell. -/
theorem State.showsNumber_of {s : State} {p : Page} {a n : Nat} (r : Reg) (hn : bigEndian (s.regBytes r) = n % 256 ^ r.width)
    (hl : (s.regBytes r).length = r.width) (ha : ∀ k, k < r.width → registerAt p (a + k) = some (r, k)) :
    s.showsNumber p a r.access r.width n :=
  ⟨s.regBytes r, ⟨r, rfl, hl.symm, rfl, hl ▸ ha⟩, hl, hn⟩

end Sys2Proof.Machine
end

