-- ==== Sys2Proof/Laws/Window.lean ====
section
/-! SUPPORT. What a byte slot of the window does, once each: a command's last byte, a field's last byte, an ignored byte. -/

namespace Sys2Proof.Machine

theorem State.inMain_of {s : State} (h : s.monitor.supply = .main) : s.inMain = true := by simp [State.inMain, h]

theorem State.writing_of_slot {s : State} {a : BitVec 7} (h : s.writeSlot a) : s.writing = true := by
  obtain ⟨h1, h2, h3, _⟩ := h
  simp [State.writing, State.inMain, h1, h2, h3]

theorem State.readingSlot_of_slot {s : State} {a : BitVec 7} (h : s.readSlot a) : s.readingSlot = true := by
  obtain ⟨h1, h2, h3, _⟩ := h
  simp [State.readingSlot, State.inMain, h1, h2, h3]

/-- The state after a field's last byte, in the words of the statements. -/
theorem State.slotTaken_eq {s : State} {a : BitVec 7} (h : s.main.win.pointer = a) :
    s.clearLatch.advance = s.slotTaken (nextPointer a) := by
  simp [State.slotTaken, State.advance, State.clearLatch, State.modifyWin, h]

/-- The state after an ignored byte, in the words of the statements. -/
theorem State.slotIgnored_eq {s : State} {a : BitVec 7} (h : s.main.win.pointer = a) (hm : s.monitor.supply = .main) :
    s.ignoredByte = s.slotIgnored (nextPointer a) := by
  simp [State.slotIgnored, State.ignoredByte, State.advance, State.modifyWin, State.setCause, h, hm]

/-- A completion in MAIN, in the words of the statements. -/
theorem State.complete_eq {s : State} (h : s.monitor.supply = .main) (code : Byte) (r : CmdResult) :
    s.complete code r = s.finished code r := by
  simp [State.complete, State.report, State.finished, State.setCause, h]

theorem State.setCause_inMain {s : State} (h : s.monitor.supply = .main) (c : Cause) :
    s.setCause c = { s with events := s.events.set .main c } := by simp [State.setCause, h]

/-- The second byte of COMMAND with its code in the latch (R169, R174). -/
theorem State.commandByte_slot {s : State} {code : Byte} (h : s.commandSlot code) (select : Byte → Bool)
    (act : Byte → State → State) :
    s.commandByte select act = if select code then act code (s.slotTaken 6) else s := by
  obtain ⟨hw, hl⟩ := h
  have hp : s.pointed = some (.command, 1) := by
    simp only [State.pointed, hw.2.2.2]
    rfl
  have hla : s.latched 1 = some [code] := by simp [State.latched, hl, State.fieldStart, hw.2.2.2]
  have := State.slotTaken_eq hw.2.2.2
  simp only [State.commandByte, State.writing_of_slot hw, hp, hla, and_self, if_true, List.headD_cons, this]
  rfl

/-- A command row with its own code in the latch. -/
theorem State.commandRow_slot {s : State} {c : Cmd} (h : s.commandSlot c.code) (arg : Byte) :
    s.commandRow c arg = (s.slotTaken 6).takeCommand c arg := by
  simp [State.commandRow, State.commandByte_slot h]

/-- A command in IDLE with no close in progress is handed to its owner at once (R174). -/
theorem State.takeCommand_ready {s : State} (hw : s.main.cmd.waiting = none) (hb : s.ic.stage = .idle) (c : Cmd) (arg : Byte) :
    s.takeCommand c arg = s.owner c arg := by
  have hc : s.closeBusy = false := by simp [State.closeBusy, hb]
  unfold State.takeCommand
  by_cases h : c = .softReset
  · subst h
    rfl
  · simp [h, hw, hc]

/-- A command that does not wait is handed to its owner in IDLE, during a close as at any other time (R174). -/
theorem State.takeCommand_immediate {s : State} (hw : s.main.cmd.waiting = none) (c : Cmd) (arg : Byte) (h : c.waits arg = false) :
    s.takeCommand c arg = s.owner c arg := by
  unfold State.takeCommand
  by_cases h2 : c = .softReset
  · subst h2
    rfl
  · simp [h2, hw, h]

/-- A command row in IDLE with no close in progress (R174). -/
theorem State.commandRow_ready {s : State} {c : Cmd} (h : s.commandReady c.code) (arg : Byte) :
    s.commandRow c arg = (s.slotTaken 6).owner c arg := by
  rw [State.commandRow_slot h.1]
  exact State.takeCommand_ready (s := s.slotTaken 6) h.2.1 h.2.2 c arg

/-- A command row that does not wait, in IDLE (R174). -/
theorem State.commandRow_immediate {s : State} {c : Cmd} (h : s.commandSlot c.code) (hw : s.main.cmd.waiting = none) (arg : Byte)
    (hn : c.waits arg = false) : s.commandRow c arg = (s.slotTaken 6).owner c arg := by
  rw [State.commandRow_slot h]
  exact State.takeCommand_immediate (s := s.slotTaken 6) hw c arg hn

/-! ### What holds after a byte slot -/

/-- What holds after a field's last byte: it holds of the state, of the state with the byte ignored, and of what the field does. -/
theorem State.fieldWrite_holds {P : State → Prop} {s : State} (select : Reg → Bool) (b : Byte) (act : Reg → List Byte → State → State)
    (hs : P s) (hi : P s.ignoredByte) (ha : ∀ r bytes, select r = true → P (act r bytes s.clearLatch.advance)) :
    P (s.fieldWrite select b act) := by
  unfold State.fieldWrite
  split
  · split
    · rename_i h
      split
      · exact ha _ _ h.2.1
      · exact hi
    · exact hs
  · exact hs

/-- What holds after COMMAND's second byte. -/
theorem State.commandByte_holds {P : State → Prop} {s : State} (select : Byte → Bool) (act : Byte → State → State)
    (hs : P s) (hi : P s.ignoredByte) (ha : ∀ code, P (act code s.clearLatch.advance)) : P (s.commandByte select act) := by
  unfold State.commandByte
  split
  · split
    · split
      · exact ha _
      · exact hs
    · exact hi
  · exact hs

/-- What holds after a command row: its owner acts only in a state in which no close is in progress, or where it does not wait. -/
theorem State.commandRow_holds {P : State → Prop} {s : State} (c : Cmd) (arg : Byte) (hs : P s) (hi : P s.ignoredByte)
    (hb : ∀ r, P (s.clearLatch.advance.report c.code r))
    (hw : ∀ w, P { s.clearLatch.advance with main := { s.clearLatch.advance.main with
      cmd := { s.clearLatch.advance.main.cmd with waiting := w } } })
    (ho : (c.waits arg = true → s.ic.stage = .idle) → P (s.clearLatch.advance.owner c arg)) : P (s.commandRow c arg) := by
  refine State.commandByte_holds _ _ hs hi fun _ => ?_
  unfold State.takeCommand
  split
  · rename_i hc
    subst hc
    exact ho (fun h => by simp [Cmd.waits] at h)
  · split
    · exact hb _
    · split
      · exact hw _
      · rename_i h
        refine ho (fun hwt => ?_)
        simp only [hwt, Bool.true_and, State.closeBusy] at h
        simpa using h

end Sys2Proof.Machine
end

