-- ==== Sys2Proof/Tests/Slice0.lean ====
section
/-! SUPPORT. Small tests with values from the spec's worked examples, the ill-formed operands, and one witness for the hypotheses
of each statement. -/

namespace Sys2Proof.Tests
open Sys2Proof Sys2Proof.Machine

/-! ### Ill-formed operands -/

theorem test_commit_at_next_refuses_now : (Instr.configCommitAtNext 1).wellFormed = false := by decide
theorem test_commit_at_next_takes_others :
    (Instr.configCommitAtNext 0).wellFormed = true ∧ (Instr.configCommitAtNext 2).wellFormed = true := by decide
theorem test_memory_fault_refuses_no_bit : (Instr.recordMemoryFault 0 0).wellFormed = false := by decide
theorem test_memory_fault_takes_a_bit : (Instr.recordMemoryFault 2047 1).wellFormed = true := by decide

/-! ### Small states -/

/-- A channel enabled with defaults but for its source and mode. -/
def entry (source mode : Byte) : ChannelEntry := ⟨1, source, mode, 0, 1, 0, 32767⟩

/-- Channel 0 enabled from the link, channel 5 from the host, in the active set. -/
def sampled : State :=
  { State.reset with cfg := { State.reset.cfg with active := { State.reset.cfg.active with
      channels := (State.reset.cfg.active.channels.set 0 (entry 0 0)).set 5 (entry 1 0) } } }

/-- With the link receiver's frame shift state. -/
def linking (shift : Shift) (s : State) : State := { s with main := { s.main with link := { s.main.link with shift := shift } } }

/-- In DATA at an address. -/
def slot (reading : Bool) (a : BitVec 7) (s : State) : State :=
  { s with main := { s.main with win := { s.main.win with txn := .data, reading := reading, pointer := a } } }

/-- In a write slot with a field latch. -/
def latched (a start : BitVec 7) (bytes : List Byte) (s : State) : State :=
  let t := slot false a s
  { t with main := { t.main with win := { t.main.win with latch := some ⟨start.toNat, bytes⟩ } } }

/-- In the slot of a command's argument. -/
def commanding (code : Byte) (s : State) : State := latched 0x05 0x04 [code] s

/-- On a page. -/
def paged (p : Page) (s : State) : State := { s with main := { s.main with win := { s.main.win with page := p } } }

/-- In a close stage. -/
def staged (k : Stage) (s : State) : State := { s with ic := { s.ic with stage := k } }

/-- With a command waiting in the command unit. -/
def waiting (c : Cmd) (arg : Byte) (s : State) : State :=
  { s with main := { s.main with cmd := { s.main.cmd with waiting := some (c, arg) } } }

/-- In BACKUP. -/
def inBackup (s : State) : State := { s with monitor := { s.monitor with supply := .backup, vddOk := false } }

/-- In BACKUP with VDD settling. -/
def settlingAt (n : Nat) (s : State) : State :=
  { s with monitor := { s.monitor with supply := .backup, vddOk := true, settling := n } }

/-- With an end boundary one second away. -/
def atEnd (s : State) : State := { s with cal := { s.cal with time := ⟨0, 1, 1, 0, 14, 59⟩ } }

/-- With a pending commit. -/
def pendingCommit (s : State) : State := { s with cfg := { s.cfg with commitPending := true } }

/-- The record queue with records of the given lengths from address 0. -/
def holding (hold : Bool) (lens : List Nat) : RecordQueue :=
  { State.reset.queue with
    lens := lens, count := lens.length, used := lens.sum, tail := lens.sum % 2048, hold := hold
    readStatus := if hold then .reading else .noRecord }

/-- With a record queue. -/
def queued (q : RecordQueue) (s : State) : State := { s with queue := q }

/-- A record with no channel entries. -/
def emptyRecord : Record := ⟨.interval, ⟨false, false, false, false, false, true⟩, 0, 0, ⟨0, 1, 1, 0, 0⟩, 15, 0, 0, 0, 0, 0, 0, 0, []⟩

/-- Record 413 of 7.6.1 without its check word. -/
def record413 : Record :=
  ⟨.interval, ⟨false, false, false, false, false, false⟩, 0, 413, ⟨25, 3, 4, 10, 0⟩, 15, 900, 0, 0, 0, 0, 0, 0,
    [⟨0, false, false, false, 122, 2478080⟩, ⟨1, false, false, false, 119, 9020⟩]⟩

/-- An entry of channel 0 with the OPEN bank's tag at reset. -/
def sampleA : Sample := ⟨0, 1, .a⟩

/-- Channel 0 measured by bank A, with its entry held by the engine. -/
def accumulating : State :=
  { State.reset with
    bankA := { State.reset.bankA with
      copy := State.reset.bankA.copy.set 0 (entry 0 0), chans := State.reset.bankA.chans.set 0 (some ⟨0, 0, false, false, false⟩) }
    main := { State.reset.main with engine := some sampleA, samples := [sampleA] } }

/-! ### Values of the worked examples -/

/-- Table 14. -/
theorem test_scaling_extremes :
    (ChannelEntry.scaled ⟨1, 0, 0, 0, 0, 0, 0x8000#16⟩ 0x800000#24) = 8388607 ∧
    (ChannelEntry.scaled ⟨1, 0, 0, 0, 0, 0, 0x7FFF#16⟩ 0x800001#24) = -8388352 ∧
    (ChannelEntry.scaled ⟨1, 0, 0, 0, 1, 0, 0x7FFF#16⟩ 0x800001#24) = -8388351 ∧
    (ChannelEntry.scaled ⟨1, 0, 0, 0, 1, 0, 0x7FFF#16⟩ 0x7FFFFF#24) = 8388351 := by decide

/-- Table 17, the clamped sample. -/
theorem test_offset_clamp : (ChannelEntry.scaled ⟨1, 0, 0, 0, 1, 256, 16384⟩ (BitVec.ofInt 24 (-8388500))) = -4194304 ∧
    (ChannelEntry.saturates ⟨1, 0, 0, 0, 1, 256, 16384⟩ (BitVec.ofInt 24 (-8388500))) = true := by decide

/-- Table 20 and Table 21, the first row of each. -/
theorem test_accumulator_at_its_limit :
    (ChanState.add ⟨140737486258176, 0, false, false, false⟩ false false (some 8388607)).acc.toInt = 140737488355327 ∧
    (ChanState.add ⟨140737486258176, 0, false, false, false⟩ true false (some 8388607)).acc.toInt = -140737482063873 := by decide

/-- R46's examples. -/
theorem test_end_boundaries :
    endBoundaryOf 15 ⟨24, 1, 1, 10, 7, 23⟩ = ⟨24, 1, 1, 10, 15, 0⟩ ∧
    endBoundaryOf 15 ⟨24, 1, 1, 10, 15, 0⟩ = ⟨24, 1, 1, 10, 30, 0⟩ ∧
    endBoundaryOf 60 ⟨24, 2, 29, 23, 30, 0⟩ = ⟨24, 3, 1, 0, 0, 0⟩ ∧
    endBoundaryOf 1 ⟨99, 12, 31, 23, 59, 0⟩ = ⟨0, 1, 1, 0, 0, 0⟩ := by decide

/-- Table 40: the words of record 413 and its check word 0x0ACC. -/
theorem test_record_413 : (Record.sealed record413).words =
    [0x2000019D, 0x32645000, 0x3CE10000, 0, 0x00000ACC, 0x0000007A, 0x00000025, 0xD0000000, 0x20000077, 0, 0x233C0000] := by
  decide +kernel

/-! ### Witnesses: states and operands that meet the hypotheses of the statements, clause by clause -/

theorem witness_StepRunsTheFrontCommand : { State.reset with pending := [.build, .store] }.pending = Instr.build :: [.store] := rfl

theorem witness_SecondsComeEvery32768Periods :
    (let s := { State.reset with events := { State.reset.events with a := ⟨0, .pulse, .idle, false⟩ } }
     s.pending = [] ∧ s.oscRunning = true ∧ s.monitor.supply = .main ∧ s.events.a.pulse = .idle ∧ s.events.b.pulse = .idle ∧
       s.cal.phase + 32767 < 32768) ∧
    (let s := inBackup { State.reset with cal := { State.reset.cal with phase := 32767 } }
     s.pending = [] ∧ s.oscRunning = true ∧ s.monitor.supply = .backup ∧ s.monitor.vddOk = false ∧ s.events.a.pulse = .idle ∧
       s.events.b.pulse = .idle ∧ s.cal.phase = 32767) := by decide

theorem witness_MainDomainIsStoppedOutsideMain : (inBackup State.reset).monitor.supply ≠ .main := by decide

theorem witness_LinkBitsAreGathered :
    (State.reset.monitor.supply = .main ∧ State.reset.main.link.shift = .hunt) ∧
    (linking (.shifting 1 (0xA0000001 >>> (32 - 1))) State.reset).main.link.shift = .shifting 1 ((0xA0000001 : Word) >>> 31) ∧
    (linking (.shifting 30 (0xA0000001 >>> (32 - 30))) State.reset).main.link.shift =
      .shifting 30 ((0xA0000001 : Word) >>> 2) := by decide

theorem witness_TruncatedAndBadParityFramesAreRejected :
    (linking (.shifting 1 1) State.reset).main.link.shift = .shifting 1 1 ∧
    (linking (.shifting 31 5) State.reset).main.link.shift = .shifting 31 5 ∧
    (linking (.shifting 31 (0x80000000 >>> 1)) State.reset).main.link.shift = .shifting 31 ((0x80000000 : Word) >>> 1) ∧
    ((List.range 32).countP fun i => (0x80000000 : Word).getLsbD i) % 2 = 1 := by decide

theorem witness_GoodFrameArrives :
    let s := linking (.shifting 31 0) { sampled with main := { sampled.main with samples := List.replicate 31 sampleA } }
    s.monitor.supply = .main ∧ s.main.link.shift = .shifting 31 ((0 : Word) >>> 1) ∧
    ((List.range 32).countP fun i => (0 : Word).getLsbD i) % 2 = 0 ∧ (0 : Word).toNat / 2 ^ 28 = (0 : Fin 6).val ∧
    s.cfg.active.channels[(0 : Fin 6)].enabled = 1 ∧ s.cfg.active.channels[(0 : Fin 6)].source = 0 ∧ s.main.samples.length < 32 := by
  decide

theorem witness_FrameOfWrongChannelIsRejected :
    (let s := linking (.shifting 31 (0x60000000 >>> 1)) sampled
     s.monitor.supply = .main ∧ s.main.link.shift = .shifting 31 ((0x60000000 : Word) >>> 1) ∧
     ((List.range 32).countP fun i => (0x60000000 : Word).getLsbD i) % 2 = 0 ∧
     ∀ c : Fin 6, (0x60000000 : Word).toNat / 2 ^ 28 = c.val →
       s.cfg.active.channels[c].enabled ≠ 1 ∨ s.cfg.active.channels[c].source = 1) ∧
    (let s := linking (.shifting 31 (0x50000000 >>> 1)) sampled
     s.monitor.supply = .main ∧ s.main.link.shift = .shifting 31 ((0x50000000 : Word) >>> 1) ∧
     ((List.range 32).countP fun i => (0x50000000 : Word).getLsbD i) % 2 = 0 ∧
     ∀ c : Fin 6, (0x50000000 : Word).toNat / 2 ^ 28 = c.val →
       s.cfg.active.channels[c].enabled ≠ 1 ∨ s.cfg.active.channels[c].source = 1) := by decide

theorem witness_SampleEntryGroups :
    let s := slot false 0x2B sampled
    let s3 := { s with main := { s.main with group := [5, 0, 0] } }
    let s4 := { s with main := { s.main with group := [6, 0, 0] } }
    s.writeSlot 0x2B ∧ s.main.group.length < 3 ∧ s3.writeSlot 0x2B ∧ s3.main.group = [5, 0, 0] ∧
    (5 : Byte).toNat = (5 : Fin 6).val ∧ s3.cfg.active.channels[(5 : Fin 6)].enabled = 1 ∧
    s3.cfg.active.channels[(5 : Fin 6)].source = 1 ∧ s3.main.samples.length < 32 ∧ s4.writeSlot 0x2B ∧ s4.main.group = [6, 0, 0] ∧
    ∀ c : Fin 6, (6 : Byte).toNat = c.val →
      s4.cfg.active.channels[c].enabled ≠ 1 ∨ s4.cfg.active.channels[c].source ≠ 1 := by decide

theorem witness_ArrivalAtFullQueueIsDropped :
    let full := { sampled with main := { sampled.main with samples := List.replicate 32 sampleA } }
    (let s := linking (.shifting 31 0) full
     s.monitor.supply = .main ∧ s.cfg.active.channels[(0 : Fin 6)].enabled = 1 ∧ s.main.samples.length = 32 ∧
     s.main.link.shift = .shifting 31 ((0 : Word) >>> 1) ∧ ((List.range 32).countP fun i => (0 : Word).getLsbD i) % 2 = 0 ∧
     (0 : Word).toNat / 2 ^ 28 = (0 : Fin 6).val ∧ s.cfg.active.channels[(0 : Fin 6)].source = 0 ∧
     s.main.link.resyncPending = true ∧
     (let l := { s.main.link with resyncPending := false, expected := 7 }
      l.resyncPending = false ∧ (0 : Word).extractLsb' 1 3 ≠ l.expected)) ∧
    (let s := slot false 0x2B { full with main := { full.main with group := [5, 0, 0] } }
     s.writeSlot 0x2B ∧ s.main.samples.length = 32 ∧ s.cfg.active.channels[(5 : Fin 6)].enabled = 1 ∧ s.main.group = [5, 0, 0] ∧
     (5 : Byte).toNat = (5 : Fin 6).val ∧ s.cfg.active.channels[(5 : Fin 6)].source = 1) := by decide

theorem witness_EngineTakesTheOldestEntry :
    (let s := { State.reset with main := { State.reset.main with samples := [sampleA] } }
     s.monitor.supply = .main ∧ s.main.engine = none ∧ s.main.samples = sampleA :: []) ∧
    State.reset.main.samples = [] ∧ accumulating.main.engine.isSome = true ∧ accumulating.monitor.supply = .main := by decide

theorem witness_AccumulationIsOneEvent :
    accumulating.monitor.supply = .main ∧ accumulating.main.engine = some sampleA ∧
    (accumulating.bank sampleA.tag).chans[sampleA.channel] = some ⟨0, 0, false, false, false⟩ := by decide

theorem witness_IncrementsOfTheModes :
    (entry 0 0).mode = 0 ∧ (entry 0 1).mode = 1 ∧ (entry 0 2).mode = 2 ∧
    (-8388608 : Int) ≤ -8388608 ∧ (-8388608 : Int) ≤ 8388607 ∧ (8388607 : Int) ≤ 8388607 := by decide

theorem witness_AccumulatorPolicies : (-8388608 : Int) ≤ 8388608 ∧ (8388608 : Int) ≤ 8388608 := by decide

theorem witness_TimeAdvancesByOneSecond :
    (⟨99, 12, 31, 23, 59, 59⟩ : DateTime).valid = true ∧ (⟨0, 2, 29, 23, 59, 59⟩ : DateTime).valid = true ∧
    (⟨0, 2, 29, 23, 59, 59⟩ : DateTime) ≠ ⟨99, 12, 31, 23, 59, 59⟩ := by decide

theorem witness_EndBoundaryIsTheNextAlignedInstant :
    (⟨99, 12, 31, 23, 59, 59⟩ : DateTime).valid = true ∧ 1 ∈ [1, 2, 5, 10, 15, 30, 60] ∧ 60 ∈ [1, 2, 5, 10, 15, 30, 60] := by decide

theorem witness_SecondEventCountsASecond :
    (State.reset.oscRunning = true ∧ State.reset.monitor.supply ≠ .absent ∧
      nextSecond State.reset.cal.time ≠ State.reset.openBank.endBoundary) ∧
    { State.reset with oscRunning := false }.oscRunning = false := by decide

theorem witness_BoundaryClosesOrIsDeferred :
    (let s := atEnd State.reset
     s.oscRunning = true ∧ s.monitor.supply = .main ∧ nextSecond s.cal.time = s.openBank.endBoundary ∧ s.ic.stage = .idle) ∧
    (let s := inBackup (atEnd State.reset)
     s.oscRunning = true ∧ s.monitor.supply = .backup ∧ nextSecond s.cal.time = s.openBank.endBoundary ∧ s.ic.stage = .idle ∧
     s.ic.backupBoundary = .noneTaken) ∧
    (let s := staged .drain (atEnd State.reset)
     s.oscRunning = true ∧ s.monitor.supply = .main ∧ nextSecond s.cal.time = s.openBank.endBoundary ∧ s.ic.stage ≠ .idle) := by
  decide

theorem witness_LaterBackupBoundaryIsMissed :
    let s0 := inBackup (atEnd State.reset)
    let s := { s0 with ic := { s0.ic with backupBoundary := .taken } }
    s.oscRunning = true ∧ s.monitor.supply = .backup ∧ s.ic.backupBoundary = .taken ∧ s.ic.stage = .idle ∧
    nextSecond s.cal.time = s.openBank.endBoundary := by decide

theorem witness_MarkerAndOscillator :
    (let s := { State.reset with cal := { State.reset.cal with phase := 16383 } }
     s.oscRunning = true ∧ s.monitor.supply ≠ .absent ∧ s.cal.phase < 16384) ∧
    { State.reset.cal with phase := 16384 }.markerHigh = true ∧
    (let s := { State.reset with oscRunning := false }
     s.oscRunning = false ∧ s.pending = []) := by decide

theorem witness_TimeLoadSetsTheCalendar :
    (commanding 1 State.reset).commandReady 1 ∧
    (let f : TimeLoadFields := ⟨0, 2, 29, 23, 59, 59⟩
     let t : DateTime := ⟨f.year.toNat, f.month.toNat, f.day.toNat, f.hour.toNat, f.minute.toNat, f.second.toNat⟩
     t.year ≤ 99 ∧ 1 ≤ t.month ∧ t.month ≤ 12 ∧ 1 ≤ t.day ∧ t.day ≤ monthLength t.year t.month ∧ t.hour ≤ 23 ∧ t.minute ≤ 59 ∧
       t.second ≤ 59) ∧
    (let f := State.reset.main.timeLoad
     ¬ (1 ≤ f.month.toNat)) := by decide

theorem witness_TimeTrimMovesTheTime :
    (let s := commanding 2 (atEnd State.reset)
     s.commandReady 2 ∧ s.cal.time.valid = true ∧ s.openBank.endBoundary.valid = true) ∧
    (0x80 : Byte).toInt < -30 ∧ (30 : Byte).toInt ≤ 30 ∧
    (endSeconds ⟨0, 1, 1, 0, 15, 0⟩ : Int) ≤ (⟨0, 1, 1, 0, 14, 59⟩ : DateTime).seconds + (1 : Byte).toInt ∧
    (⟨0, 1, 1, 0, 0, 0⟩ : DateTime).seconds + (-1 : Byte).toInt < (⟨0, 1, 1, 0, 0, 0⟩ : DateTime).seconds ∧
    ¬ ((⟨0, 1, 1, 0, 14, 59⟩ : DateTime).seconds + (-30 : Byte).toInt < (⟨0, 1, 1, 0, 0, 0⟩ : DateTime).seconds) := by decide

theorem witness_ForceCloseAndCommitNowClose :
    (commanding 6 State.reset).commandReady 6 ∧ (commanding 3 State.reset).commandReady 3 ∧
    (commanding 3 (pendingCommit State.reset)).cfg.commitPending = true ∧ State.reset.cfg.staged.firstFault = none ∧
    { State.reset.cfg.staged with lengthCode := 7 }.firstFault = some (.length, 0) := by decide

theorem witness_TableCommands :
    (commanding 8 State.reset).commandReady 8 ∧ (commanding 9 State.reset).commandReady 9 ∧
    (commanding 7 State.reset).commandReady 7 ∧ { State.reset.ic with anyBuilt := true }.anyBuilt = true := by decide

theorem witness_CommitAtNextValidates :
    let s := commanding 3 (staged .store State.reset)
    s.commandSlot 3 ∧ s.main.cmd.waiting = none ∧ s.cfg.commitPending = false ∧ s.cfg.staged.firstFault = none ∧
    (pendingCommit s).commandSlot 3 ∧ (pendingCommit s).cfg.commitPending = true ∧
    { s.cfg.staged with lengthCode := 255 }.firstFault = some (.length, 0) ∧ 2 ≤ (2 : Byte).toNat ∧ 2 ≤ (255 : Byte).toNat := by decide

theorem witness_CancelAndFetch :
    let s := staged .drain State.reset
    s.main.cmd.waiting = none ∧ (commanding 4 s).commandSlot 4 ∧ (commanding 4 s).main.cmd.waiting = none ∧
    (commanding 5 (pendingCommit s)).commandSlot 5 ∧ (commanding 5 (pendingCommit s)).cfg.commitPending = true := by decide

theorem witness_RecordCommands :
    (let s := commanding 10 State.reset
     s.main.cmd.waiting = none ∧ s.commandSlot 10 ∧ s.queue.hold = false ∧ s.queue.count = 0) ∧
    (let s := commanding 10 (queued (holding false [5]) State.reset)
     s.main.cmd.waiting = none ∧ s.commandSlot 10 ∧ s.queue.count ≠ 0) ∧
    (let s := commanding 11 State.reset
     s.main.cmd.waiting = none ∧ s.commandSlot 11 ∧ s.queue.hold = false) ∧
    (let s := commanding 11 (queued (holding true [23, 5]) State.reset)
     s.main.cmd.waiting = none ∧ s.commandSlot 11 ∧ s.queue.hold = true ∧ s.queue.lens = 23 :: [5]) ∧
    (commanding 12 State.reset).commandSlot 12 ∧ (commanding 12 State.reset).main.cmd.waiting = none := by decide

theorem witness_SoftResetRestartsTheMainDomain :
    (commanding 13 State.reset).commandSlot 13 ∧ (commanding 13 (waiting .forceClose 0 (staged .drain accumulating))).commandSlot 13 := by
  decide

theorem witness_CommandUnitTakesWaitsOrRefuses :
    (let s := commanding 14 State.reset
     s.main.cmd.waiting = none ∧ s.commandSlot 14 ∧ 14 ≤ (14 : Byte).toNat) ∧
    (let s := commanding 0 (waiting .snapshot 0 (staged .drain State.reset))
     s.main.cmd.waiting ≠ none ∧ s.commandSlot 0) ∧
    (let s := commanding Cmd.timeTrim.code (staged .drain State.reset)
     s.main.cmd.waiting = none ∧ s.commandSlot Cmd.timeTrim.code ∧ s.ic.stage ≠ .idle ∧ (30 : Byte).toInt ≠ 0 ∧
     -30 ≤ (30 : Byte).toInt ∧ (30 : Byte).toInt ≤ 30) ∧
    (let s := commanding 2 State.reset
     s.main.cmd.waiting = none ∧ s.commandSlot 2 ∧ 30 < (31 : Byte).toInt) ∧
    (let s := commanding Cmd.queueFlush.code (waiting .snapshot 0 (staged .drain State.reset))
     s.main.cmd.waiting ≠ none ∧ s.commandSlot Cmd.queueFlush.code ∧ Cmd.queueFlush ≠ Cmd.softReset) := by decide

theorem witness_HandOverIsTheCommandWrittenNow :
    (let s := waiting .timeTrim 5 State.reset
     s.monitor.supply = .main ∧ s.main.cmd.waiting = some (.timeTrim, 5) ∧ s.ic.stage = .idle ∧ Cmd.timeTrim ≠ Cmd.softReset) ∧
    (let s := waiting .configCommit 1 (staged .drain State.reset)
     s.monitor.supply = .main ∧ s.main.cmd.waiting = some (.configCommit, 1) ∧ s.ic.stage ≠ .idle) := by decide

theorem witness_BuildAssemblesTheRecord : (staged .build accumulating).ic.stage = .build := rfl

theorem witness_RecordWords :
    let r := record413
    r.nominal < 64 ∧ r.stamp.year < 128 ∧ r.stamp.month < 16 ∧ r.stamp.day < 32 ∧ r.stamp.hour < 32 ∧ r.stamp.minute < 64 ∧
    r.entries.length ≤ 6 ∧ r.entries[1]? = some ⟨1, false, false, false, 119, 9020⟩ := by decide

theorem witness_CreditStage :
    let s := { staged .credit State.reset with ic := { (staged .credit State.reset).ic with built := some record413 } }
    s.ic.stage = .credit ∧ s.ic.built = some record413 ∧ record413.entries.Pairwise (fun x y => x.channel < y.channel) := by decide

/-- A state in STORE with the record of an interval. -/
def storing (d : Option Deferred) (due : Bool) : State :=
  { State.reset with ic := { State.reset.ic with
      stage := .store, built := some emptyRecord, deferred := d, gapDue := due
      firstMissed := if due then some ⟨⟨0, 1, 1, 0, 0⟩, 15, true⟩ else none } }

/-- A boundary handed over in a supply state with the backup boundary state found there. -/
def deferred (x : SupplyState) (found : BackupBoundary) : Deferred := ⟨⟨0, 1, 1, 0, 15, 0⟩, false, x, found⟩

theorem witness_StoreCompletesTheClose :
    (∀ d ∈ [none, some (deferred .main .noneTaken), some (deferred .backup .noneTaken), some (deferred .backup .taken)],
      ∀ due, (storing d due).ic.stage = .store ∧ (storing d due).ic.built = some emptyRecord ∧ (storing d due).ic.deferred = d ∧
        (inBackup (storing d due)).ic = (storing d due).ic) ∧
    (inBackup (storing none true)).monitor.supply = .backup ∧ (storing none true).ic.gapDue = true ∧
    (storing none true).ic.firstMissed = some ⟨⟨0, 1, 1, 0, 0⟩, 15, true⟩ := by decide

/-- 89 records of 23 words: one word free. -/
def fullQueue (overwrite hold : Bool) : RecordQueue := { holding hold (List.replicate 89 23) with overwrite := overwrite }

theorem witness_QueueTakesAnOffer :
    ((holding false []).inv ∧ (holding false []).used + 23 ≤ 2048) ∧
    (let q := holding false (List.replicate 88 23 ++ [5, 14])
     q.inv ∧ q.used + 5 = 2048) ∧
    (let q := { holding false (List.replicate 88 23 ++ [20]) with overwrite := true }
     q.inv ∧ q.used + 5 = 2049 ∧ q.overwrite = true ∧ q.hold = false) ∧
    ((fullQueue false false).inv ∧ 2048 < (fullQueue false false).used + 5 ∧ (fullQueue false false).overwrite = false) ∧
    ((fullQueue true true).inv ∧ 2048 < (fullQueue true true).used + 5 ∧ (fullQueue true true).hold = true) ∧
    ((fullQueue true false).inv ∧ 2048 < (fullQueue true false).used + 5 ∧ (fullQueue true false).overwrite = true ∧
      (fullQueue true false).hold = false) := by
  unfold RecordQueue.inv
  decide

theorem witness_RecordMemoryKeepsWords :
    RecordMemory.wf [(2047, 1)] = true ∧ [(1 : Word), 2].length ≤ 2048 ∧
    (let s := queued { State.reset.queue with mem := [(2047, 1)] } State.reset
     s.monitor.supply ≠ .absent ∧ s.queue.mem.wf = true) := by decide

theorem witness_VerdictAtTheLastWord :
    let q := holding true [1]
    q.readStatus = .reading ∧ q.readPtr = 0 ∧ q.runningSum = 0 ∧ q.lens.head? = some 1 ∧ 1 ≤ 1 := by decide

theorem witness_RecordDataBytes :
    let s := slot true 0x2C (queued (holding true [5]) State.reset)
    s.readSlot 0x2C ∧ s.queue.readStatus = .reading ∧ s.main.win.wordPos = 0 ∧
    { s.main.win with wordPos := 3 }.wordPos = 3 ∧
    (queued { s.queue with readStatus := .checkBad } s).queue.readStatus = .checkBad ∧
    (slot true 0x2C State.reset).readSlot 0x2C ∧ (slot true 0x2C State.reset).queue.readStatus = .noRecord := by decide

theorem witness_TransactionFrame :
    (State.reset.monitor.supply = .main ∧ State.reset.csnHigh = true) ∧
    (let s := { State.reset with
      csnHigh := false, main := { State.reset.main with win := { State.reset.main.win with txn := .address } } }
     s.monitor.supply = .main ∧ s.main.win.txn = .address ∧ s.csnHigh = false) := by decide

theorem witness_ReadsAreCoherent :
    ((slot true 0x3F State.reset).readSlot 0x3F ∧ registerAt (slot true 0x3F State.reset).main.win.page 0x3F = none) ∧
    ((slot true 0x01 State.reset).readSlot 0x01 ∧ registerAt .live 0x01 = some (.status, 0) ∧ Reg.status.width = 1) ∧
    ((slot true 0x06 State.reset).readSlot 0x06 ∧ registerAt .live 0x06 = some (.pendingSet, 0) ∧ 1 < Reg.pendingSet.width) ∧
    (registerAt .live 0x07 = some (.pendingSet, 1) ∧
      (let s := slot true 0x07 State.reset
       { s.main.win with capture := some ⟨0x07 - 1, [4, 0]⟩ }.capture = some ⟨0x07 - 1, [4, 0]⟩)) ∧
    (registerAt .live 0x17 = some (.calendar, 7) ∧ (slot true 0x17 State.reset).main.win.calImage = none) := by decide

theorem witness_FieldLatchAndIgnoredBytes :
    ((slot false 0x0A State.reset).writeSlot 0x0A ∧ registerAt .live 0x0A = some (.mask .a, 0) ∧
      (Reg.mask .a).access ≠ .readOnly ∧ 0 + 1 < (Reg.mask .a).width) ∧
    (let s := paged .channels (latched 0x46 0x45 [1] State.reset)
     s.writeSlot 0x46 ∧ registerAt s.main.win.page 0x46 = some (.channel 0 .offset, 1) ∧ (Reg.channel 0 .offset).access ≠ .readOnly ∧
     1 + 1 < (Reg.channel 0 .offset).width ∧ s.main.win.latch = some ⟨0x46 - 1, [1]⟩) ∧
    ((slot false 0x0B State.reset).writeSlot 0x0B ∧ registerAt .live 0x0B = some (.mask .a, 1) ∧
      (slot false 0x0B State.reset).main.win.latch = none ∧ 1 + 1 = (Reg.mask .a).width ∧
      Instr.maskWrite 7 ∈ (Reg.mask .a).lastByteRows 7) ∧
    ((slot false 0x05 State.reset).writeSlot 0x05 ∧ registerAt .live 0x05 = some (.command, 1) ∧ 1 + 1 = Reg.command.width ∧
      Instr.configCommitNow ∈ Reg.command.lastByteRows 1 ∧ Instr.softReset 0 ∈ Reg.command.lastByteRows 0) ∧
    ((slot false 0x3F State.reset).writeSlot 0x3F ∧ registerAt .live 0x3F = none) ∧
    ((slot false 0x2C State.reset).writeSlot 0x2C ∧ registerAt .live 0x2C = some (.recordData, 0) ∧
      Reg.recordData.access = .readOnly) := by decide

theorem witness_PageAndSlotSelects :
    ((slot false 0x00 State.reset).writeSlot 0x00 ∧ Page.snapshot.code = (4 : Byte).toNat ∧ 4 < (5 : Byte).toNat) ∧
    ((paged .schedule (slot false 0x48 State.reset)).writeSlot 0x48 ∧ (19 : Byte).toNat = (19 : Fin 20).val ∧ 20 ≤ (20 : Byte).toNat) ∧
    ((paged .specialDays (slot false 0x40 State.reset)).writeSlot 0x40 ∧ (15 : Byte).toNat = (15 : Fin 16).val ∧
      16 ≤ (16 : Byte).toNat) := by decide

theorem witness_StagedFieldWrites :
    (let s := slot false 0x1E State.reset
     s.writeSlot 0x1E ∧ registerAt s.main.win.page 0x1E = some (.length, 0) ∧ Reg.length.staged = true ∧ 0 + 1 = Reg.length.width ∧
     s.cfg.commitPending = false) ∧
    (let s := paged .channels (latched 0x47 0x45 [1, 2] (pendingCommit State.reset))
     s.writeSlot 0x47 ∧ registerAt s.main.win.page 0x47 = some (.channel 0 .offset, 2) ∧ (Reg.channel 0 .offset).staged = true ∧
     2 + 1 = (Reg.channel 0 .offset).width ∧ s.main.win.latch = some ⟨0x47 - 2, [1, 2]⟩ ∧ s.cfg.commitPending = true) := by decide

theorem witness_EventUnitRegisters :
    (latched 0x09 0x08 [0xFF] State.reset).writeSlot 0x09 ∧
    (latched 0x09 0x08 [0xFF] State.reset).main.win.latch = some ⟨0x08, [0xFF]⟩ ∧
    (latched 0x0B 0x0A [0x0F] State.reset).writeSlot 0x0B ∧
    (latched 0x0B 0x0A [0x0F] State.reset).main.win.latch = some ⟨0x0A, [0x0F]⟩ ∧
    (latched 0x0E 0x0D [0] State.reset).writeSlot 0x0E ∧ (latched 0x0E 0x0D [0] State.reset).main.win.latch = some ⟨0x0D, [0]⟩ ∧
    (slot false 0x0C State.reset).writeSlot 0x0C ∧ (slot false 0x0F State.reset).writeSlot 0x0F ∧
    OutputMode.marker.code = (3 : Byte).toNat ∧ 4 ≤ (4 : Byte).toNat := by decide

theorem witness_OwnerRegisters :
    (slot false 0x28 State.reset).writeSlot 0x28 ∧ 2 ≤ (2 : Byte).toNat ∧ (slot false 0x29 State.reset).writeSlot 0x29 ∧
    (let s := paged .snapshot (latched 0x4C 0x4B [5] State.reset)
     s.writeSlot 0x4C ∧ s.main.win.page = .snapshot ∧ s.main.win.latch = some ⟨0x4B, [5]⟩ ∧ (5 : Byte).toNat = (5 : Fin 6).val ∧
     (3 : Byte).toNat = (3 : Fin 4).val ∧ 3 < (4 : Byte).toNat) ∧
    (slot false 0x18 State.reset).writeSlot (BitVec.ofNat 7 (0x18 + 0)) ∧
    (slot false 0x1D State.reset).writeSlot (BitVec.ofNat 7 (0x18 + 5)) := by decide

theorem witness_BackupEntryAndSettling :
    (waiting .snapshot 0 (staged .drain accumulating)).monitor.supply = .main ∧
    ((inBackup State.reset).monitor.supply = .backup ∧ (inBackup State.reset).monitor.vddOk = false) ∧
    ((settlingAt 8191 State.reset).monitor.supply = .backup ∧ (settlingAt 8191 State.reset).monitor.vddOk = true) := by decide

theorem witness_BackupReturn :
    (let s := settlingAt 8191 State.reset
     s.monitor.supply = .backup ∧ s.monitor.vddOk = true ∧ s.oscRunning = true ∧ s.ic.stage = .idle ∧
     8191 ≤ s.monitor.settling ∧ s.pending = [] ∧ s.cal.phase + 1 < 32768 ∧ s.events.a.pulse = .idle ∧ s.events.b.pulse = .idle) ∧
    (let s := settlingAt 8190 State.reset
     s.monitor.settling < 8191 ∧ s.pending = [] ∧ s.cal.phase + 1 < 32768) ∧
    (let s0 := settlingAt 0 State.reset
     let f : FirstMissed := ⟨⟨0, 1, 1, 0, 0⟩, 15, true⟩
     let s := { s0 with ic := { s0.ic with missed := 1, firstMissed := some f } }
     s.monitor.supply = .backup ∧ s.monitor.vddOk = true ∧ s.oscRunning = true ∧ s.ic.missed ≠ 0 ∧ s.ic.stage = .idle ∧
     s.ic.firstMissed = some f ∧ (staged .store s).ic.stage ≠ .idle) := by decide

theorem witness_SettingACause :
    let o : EventOutput := ⟨0xFFF, .pulse, .idle, false⟩
    let e : EventUnit := ⟨0x400, o, ⟨0, .off, .idle, false⟩⟩
    e.pending.getLsbD Cause.timeInvalid.position = true ∧ e.pending.getLsbD Cause.windowFault.position = false ∧
    (e.output .a).mode = .pulse ∧ (e.output .a).mask.getLsbD Cause.windowFault.position = true ∧ (e.output .b).mode ≠ .pulse := by
  decide

theorem witness_OutputLevelsAndPulses :
    (inBackup State.reset).monitor.supply ≠ .main ∧
    (let s := { State.reset with events := ⟨0x400, ⟨0x400, .pulse, .requested, false⟩, ⟨0x400, .level, .idle, false⟩⟩ }
     s.monitor.supply = .main ∧ (s.events.output .b).mode = .level ∧ (s.events.output .a).mode = .pulse ∧
     (s.events.output .a).pulse = .requested ∧ s.oscRunning = true ∧ s.pending = [] ∧ s.cal.phase + 1 < 32768) ∧
    (State.reset.events.output .a).mode = .marker ∧ (State.reset.events.output .b).mode = .off ∧
    ({ State.reset.events with b := ⟨0, .pulse, .low1, false⟩ }.output .b).pulse = .low1 := by decide

theorem witness_ValidationConditions :
    State.reset.cfg.staged.firstFault = none ∧
    { State.reset.cfg.staged with lengthCode := 7 }.firstFault = some (.length, 0) ∧
    { State.reset.cfg.staged with channels := State.reset.cfg.staged.channels.set 3 (entry 0 2) }.firstFault = some (.channels, 3) ∧
    { State.reset.cfg.staged with
      schedule := (State.reset.cfg.staged.schedule.set 2 ⟨1, 0, 17, 10, 3⟩).set 19 ⟨1, 0, 17, 10, 1⟩
      specials := State.reset.cfg.staged.specials.set 0 ⟨1, 4, 31, 0, 0, 0⟩ }.firstFault = some (.schedule, 19) ∧
    checkOrder.take 2 = [(.length, 0), (.channels, 0)] ∧ checkOrder.length = 51 := by decide

theorem witness_TariffLookup :
    let c := { State.reset.cfg.active with
      schedule := State.reset.cfg.active.schedule.set 19 ⟨1, 0, 17, 10, 3⟩
      specials := (State.reset.cfg.active.specials.set 0 ⟨1, 2, 29, 0, 0, 1⟩).set 15 ⟨1, 12, 25, 1, 24, 2⟩ }
    c.firstFault = none ∧ c.dayTypeAt ⟨24, 2, 29, 0, 0, 0⟩ = 1 ∧ c.dayTypeAt ⟨24, 12, 25, 0, 0, 0⟩ = 2 ∧
    c.tariffAt ⟨24, 1, 1, 17, 9, 59⟩ = 0 ∧ c.tariffAt ⟨24, 1, 1, 17, 10, 0⟩ = 3 := by decide

theorem witness_StepKeepsBanksAndTags :
    State.reset.banksInv ∧ State.reset.samplesInv ∧ (∃ s', step State.reset = .next s') := by
  refine ⟨?_, ?_, _, rfl⟩
  · unfold State.banksInv; decide
  · unfold State.samplesInv; decide

theorem witness_StepKeepsTheCalendarReal : State.reset.calendarInv ∧ ∃ s', step State.reset = .next s' := by
  refine ⟨?_, _, rfl⟩
  unfold State.calendarInv; decide

theorem witness_StepKeepsTheConfigurationValid :
    (pendingCommit State.reset).configInv ∧ ∃ s', step (pendingCommit State.reset) = .next s' := by
  refine ⟨?_, _, rfl⟩
  unfold State.configInv; decide

theorem witness_StepKeepsTheRecordQueue :
    (queued (holding true [5]) State.reset).queueInv ∧ State.reset.memoryInv ∧
    ∃ s', step (queued (holding true [5]) State.reset) = .next s' := by
  refine ⟨?_, ?_, _, rfl⟩
  · refine ⟨?_, ?_, nofun⟩
    · unfold RecordQueue.inv; decide
    · unfold RecordQueue.holdInv; decide
  · unfold State.memoryInv; decide

theorem witness_OnlyCreditsAndClearsChangeTheTables :
    (∃ t, exec .build (staged .build accumulating) = .next t) ∧ Instr.build ≠ .supplyLoss ∧ (∀ v, Instr.build ≠ .coldStart v) ∧
    Instr.build ≠ .credit ∧ (∀ a, Instr.build ≠ .totalsClear a) ∧ ∀ a, Instr.build ≠ .demandReset a :=
  ⟨⟨_, rfl⟩, nofun, nofun, nofun, nofun, nofun⟩

end Sys2Proof.Tests
end

section
/-! SUPPORT. What R17 and R73 speak of, as a view of the state: the states of the two banks, the close stage and the entries in
flight. `TagMove` lists the changes that a step makes to it, one for each rule that allows one. -/

namespace Sys2Proof.Machine

/-! ### The view -/

/-- The states of the banks, the close stage and the entries in flight. -/
structure TagView where
  bankA : BankState
  bankB : BankState
  stage : Stage
  engine : Option Sample
  samples : List Sample

/-- The view of a state. -/
def State.tagView (s : State) : TagView := ⟨s.bankA.state, s.bankB.state, s.ic.stage, s.main.engine, s.main.samples⟩

/-- The tag of the OPEN bank (R73). -/
def TagView.openTag (v : TagView) : Tag := if v.bankA = .opened then .a else .b

/-- The entry that the engine holds and those of the queue. -/
def TagView.inFlight (v : TagView) : List Sample := v.engine.toList ++ v.samples

/-- The state of a bank by its tag. -/
def TagView.bank (v : TagView) : Tag → BankState
  | .a => v.bankA
  | .b => v.bankB

/-- The view with one bank in another state. -/
def TagView.setBank (v : TagView) (t : Tag) (x : BankState) : TagView :=
  match t with
  | .a => { v with bankA := x }
  | .b => { v with bankB := x }

theorem State.openTag_tagView (s : State) : s.tagView.openTag = s.openTag := rfl

theorem State.bank_tagView (s : State) (t : Tag) : s.tagView.bank t = (s.bank t).state := by cases t <;> rfl

@[simp] theorem TagView.bank_setBank (v : TagView) (t : Tag) (x : BankState) : (v.setBank t x).bank t = x := by cases t <;> rfl

@[simp] theorem TagView.bank_setBank_other (v : TagView) (t : Tag) (x : BankState) :
    (v.setBank t x).bank t.other = v.bank t.other := by cases t <;> rfl

@[simp] theorem TagView.bank_setBank_of_other (v : TagView) (t : Tag) (x : BankState) :
    (v.setBank t.other x).bank t = v.bank t := by cases t <;> rfl

@[simp] theorem TagView.setBank_stage (v : TagView) (t : Tag) (x : BankState) : (v.setBank t x).stage = v.stage := by
  cases t <;> rfl

@[simp] theorem TagView.setBank_samples (v : TagView) (t : Tag) (x : BankState) : (v.setBank t x).samples = v.samples := by
  cases t <;> rfl

@[simp] theorem TagView.setBank_inFlight (v : TagView) (t : Tag) (x : BankState) : (v.setBank t x).inFlight = v.inFlight := by
  cases t <;> rfl

/-! ### The moves -/

/-- The view once a close is triggered: the OPEN bank CLOSING, the other one OPEN, the close stage DRAIN (R76, R81). -/
def TagView.triggered (v : TagView) : TagView :=
  { (v.setBank v.openTag .closing).setBank v.openTag.other .opened with stage := .drain }

/-- The view once a close is complete: the CLOSING bank FREE, the close stage IDLE (R87). -/
def TagView.completed (v : TagView) : TagView := { v.setBank v.openTag.other .free with stage := .idle }

/-- The view once the OPEN bank is opened again in place (R148). -/
def TagView.reopened (v : TagView) : TagView := v.setBank v.openTag .opened

/-- The changes of the view. -/
inductive TagMove : TagView → TagView → Prop where
  /-- An arrival at a queue with room, tagged with the OPEN bank (R7, R13). -/
  | arrive {v : TagView} (c : Fin 6) (value : BitVec 24) (room : v.samples.length < Config.queueDepth) :
      TagMove v { v with samples := v.samples ++ [⟨c, value, v.openTag⟩] }
  /-- The IDLE engine takes the oldest entry (R15). -/
  | take {v : TagView} {x : Sample} {rest : List Sample} (idle : v.engine = none) (front : v.samples = x :: rest) :
      TagMove v { v with engine := some x, samples := rest }
  /-- The engine completes its entry (R18). -/
  | finish (v : TagView) : TagMove v { v with engine := none }
  /-- Everything in flight is discarded or lost (R16). -/
  | discard (v : TagView) : TagMove v { v with engine := none, samples := [] }
  /-- The drain ends with no entry of the closing bank's tag in flight (R82). -/
  | drained {v : TagView} (draining : v.stage = .drain) (only : ∀ x ∈ v.inFlight, x.tag = v.openTag) :
      TagMove v { v with stage := .build }
  /-- BUILD (R83). -/
  | build {v : TagView} (building : v.stage = .build) : TagMove v { v with stage := .credit }
  /-- CREDIT (R85). -/
  | credit {v : TagView} (crediting : v.stage = .credit) : TagMove v { v with stage := .store }
  /-- The completion of a close (R87). -/
  | complete {v : TagView} (storing : v.stage = .store) : TagMove v v.completed
  /-- The trigger of a close (R76, R81). -/
  | trigger {v : TagView} (idle : v.stage = .idle) : TagMove v v.triggered
  /-- The end of a missed interval (R148). -/
  | reopen (v : TagView) : TagMove v v.reopened
  /-- A cold start, or a loss of both supplies (R96, R145). -/
  | cold (v : TagView) : TagMove v ⟨.opened, .free, .idle, none, []⟩

@[simp] theorem TagView.openTag_triggered (v : TagView) : v.triggered.openTag = v.openTag.other := by
  by_cases h : v.bankA = .opened <;> simp [TagView.triggered, TagView.openTag, TagView.setBank, Tag.other, h]

@[simp] theorem TagView.openTag_completed (v : TagView) : v.completed.openTag = v.openTag := by
  by_cases h : v.bankA = .opened <;> simp [TagView.completed, TagView.openTag, TagView.setBank, Tag.other, h]

@[simp] theorem TagView.openTag_reopened (v : TagView) : v.reopened.openTag = v.openTag := by
  by_cases h : v.bankA = .opened <;> simp [TagView.reopened, TagView.openTag, TagView.setBank, h]

@[simp] theorem TagView.inFlight_triggered (v : TagView) : v.triggered.inFlight = v.inFlight := by
  simp only [TagView.triggered]
  exact (TagView.setBank_inFlight _ _ _).trans (TagView.setBank_inFlight _ _ _)

@[simp] theorem TagView.inFlight_completed (v : TagView) : v.completed.inFlight = v.inFlight :=
  TagView.setBank_inFlight v _ _

@[simp] theorem TagView.inFlight_reopened (v : TagView) : v.reopened.inFlight = v.inFlight := TagView.setBank_inFlight v _ _

/-! ### The invariants on the view -/

/-- R73 on a view: the bank that takes samples is OPEN, the other one CLOSING exactly during a close. -/
def TagView.banksInv (v : TagView) : Prop :=
  v.bank v.openTag = .opened ∧ v.bank v.openTag.other = if v.stage = .idle then .free else .closing

/-- R13 and R17 on a view. -/
def TagView.samplesInv (v : TagView) : Prop :=
  v.samples.length ≤ Config.queueDepth ∧
  (v.stage ≠ .drain → ∀ x ∈ v.inFlight, x.tag = v.openTag) ∧
  v.inFlight.Pairwise fun x y => x.tag = v.openTag → y.tag = v.openTag

theorem State.banksInv_iff (s : State) : s.banksInv ↔ s.tagView.banksInv := by
  by_cases hA : s.bankA.state = .opened
  · have hB : (if s.ic.stage = .idle then BankState.free else .closing) ≠ .opened := by split <;> decide
    simp only [State.banksInv, TagView.banksInv, TagView.openTag, State.tagView, TagView.bank, Tag.other, hA, if_true, true_and]
    exact or_iff_left fun h => hB h.2.symm
  · simp only [State.banksInv, TagView.banksInv, TagView.openTag, State.tagView, TagView.bank, Tag.other, hA, if_false, false_and,
      false_or]
    rfl

theorem State.samplesInv_iff (s : State) : s.samplesInv ↔ s.tagView.samplesInv := Iff.rfl

/-- With only the OPEN bank's tag in flight the tags are in order in every close stage. -/
theorem TagView.samplesInv_of_all_open {v : TagView} (hlen : v.samples.length ≤ Config.queueDepth)
    (hopen : ∀ x ∈ v.inFlight, x.tag = v.openTag) : v.samplesInv :=
  ⟨hlen, fun _ => hopen, List.pairwise_iff_forall_sublist.mpr fun h _ => hopen _ (h.subset (by simp))⟩

/-- Entries that leave the flight keep the order of those that stay. -/
theorem TagView.samplesInv.of_sublist {v w : TagView} (h : v.samplesInv) (hsub : w.inFlight.Sublist v.inFlight)
    (hlen : w.samples.length ≤ v.samples.length) (htag : w.openTag = v.openTag) (hstage : w.stage = v.stage) :
    w.samplesInv := by
  obtain ⟨hdepth, hopen, hord⟩ := h
  refine ⟨hlen.trans hdepth, fun hd x hx => ?_, ?_⟩
  · rw [htag]
    exact hopen (hstage ▸ hd) x (hsub.subset hx)
  · rw [htag]
    exact hord.sublist hsub

/-- R73: every move keeps one bank OPEN and the other one CLOSING exactly during a close. -/
theorem TagMove.keeps_banks {v w : TagView} (m : TagMove v w) (h : v.banksInv) : w.banksInv := by
  obtain ⟨hopen, hother⟩ := h
  cases m with
  | arrive | take | finish | discard => exact ⟨hopen, hother⟩
  | drained hs | build hs | credit hs =>
    rw [hs] at hother
    exact ⟨hopen, hother⟩
  | complete hs =>
    rw [TagView.banksInv, TagView.openTag_completed]
    exact ⟨(TagView.bank_setBank_of_other v _ _).trans hopen, TagView.bank_setBank v _ _⟩
  | trigger hs =>
    rw [TagView.banksInv, TagView.openTag_triggered, Tag.other_other]
    exact ⟨TagView.bank_setBank _ _ _, (TagView.bank_setBank_of_other _ _ _).trans (TagView.bank_setBank v _ _)⟩
  | reopen =>
    rw [TagView.banksInv, TagView.openTag_reopened]
    exact ⟨TagView.bank_setBank v _ _, (TagView.bank_setBank_other v _ _).trans (by simpa [TagView.reopened] using hother)⟩
  | cold => exact ⟨rfl, rfl⟩

/-- R13, R17: every move keeps the depth of the queue and the order of the tags. A trigger makes every tag in flight that of the
closing bank, so the first entry of the OPEN bank arrives behind all of them. -/
theorem TagMove.keeps_samples {v w : TagView} (m : TagMove v w) (h : v.samplesInv) : w.samplesInv := by
  have ⟨hdepth, hopen, hord⟩ := h
  cases m with
  | arrive c value room =>
    have hfly : ({ v with samples := v.samples ++ [⟨c, value, v.openTag⟩] } : TagView).inFlight =
        v.inFlight ++ [⟨c, value, v.openTag⟩] := (List.append_assoc ..).symm
    refine ⟨by simpa using room, fun hs x hx => ?_, ?_⟩
    · rw [hfly, List.mem_append, List.mem_singleton] at hx
      rcases hx with hx | rfl
      · exact hopen hs x hx
      · rfl
    · rw [hfly, List.pairwise_append]
      exact ⟨hord, List.pairwise_singleton _ _, fun x _ y hy _ => by rw [List.mem_singleton.mp hy]; rfl⟩
  | take idle front =>
    exact h.of_sublist (by simp [TagView.inFlight, idle, front]) (by simp [front]) rfl rfl
  | finish => exact h.of_sublist (List.sublist_append_right _ _) le_rfl rfl rfl
  | discard => exact h.of_sublist (List.nil_sublist _) (Nat.zero_le _) rfl rfl
  | drained draining only => exact TagView.samplesInv_of_all_open hdepth only
  | build hs | credit hs => exact TagView.samplesInv_of_all_open hdepth (hopen (by simp [hs]))
  | complete hs =>
    refine TagView.samplesInv_of_all_open (by simpa [TagView.completed] using hdepth) ?_
    simpa using hopen (by simp [hs])
  | trigger hs =>
    have hold : ∀ x ∈ v.inFlight, x.tag ≠ v.openTag.other := fun x hx => by simp [hopen (by simp [hs]) x hx]
    refine ⟨by simpa [TagView.triggered] using hdepth, fun hd => absurd rfl hd, ?_⟩
    rw [TagView.inFlight_triggered, TagView.openTag_triggered]
    exact List.Pairwise.imp_of_mem (fun hx _ _ hnew => absurd hnew (hold _ hx)) hord
  | reopen =>
    exact h.of_sublist (by simp) (by simp [TagView.reopened]) (by simp) (by simp [TagView.reopened])
  | cold => exact TagView.samplesInv_of_all_open (Nat.zero_le _) nofun

/-- R17 in the words of the rule: with R73, an entry of a bank that is not OPEN is in flight in DRAIN alone, and that bank is
CLOSING then. -/
theorem State.tagsOrdered_of_inv {s : State} (hb : s.banksInv) (hs : s.samplesInv) : s.tagsOrdered := by
  obtain ⟨hopen, hother⟩ := s.banksInv_iff.mp hb
  rw [State.openTag_tagView, State.bank_tagView] at hopen hother
  obtain ⟨-, htags, hord⟩ := hs
  constructor
  · intro x hx
    rcases Tag.eq_or_other x.tag s.openTag with ht | ht
    · simp [ht, hopen]
    · have hdrain : s.tagView.stage = .drain := by
        by_contra hd
        exact Tag.ne_other _ ((htags hd x hx).symm.trans ht)
      simp [ht, hother, hdrain]
  · refine hord.imp fun {x y} hxy hx => ?_
    have hxt : x.tag = s.openTag := by
      refine (Tag.eq_or_other x.tag s.openTag).resolve_right fun ht => ?_
      rw [ht, hother] at hx
      split at hx <;> cases hx
    simp [hxy hxt, hopen]

end Sys2Proof.Machine
end

section
/-! SUPPORT. Every step is a sequence of the moves of `TagMove`: first what leaves the view as it is, then each shared operation
and each command in the model's order. -/

namespace Sys2Proof.Machine

/-- The view of `u` is that of `s` after any number of moves. -/
def State.movesTo (s u : State) : Prop := Relation.ReflTransGen TagMove s.tagView u.tagView

theorem State.movesTo.trans {s u w : State} (h : s.movesTo u) (h' : u.movesTo w) : s.movesTo w := Relation.ReflTransGen.trans h h'

theorem State.movesTo_of_eq {s u : State} (h : u.tagView = s.tagView) : s.movesTo u := by
  rw [State.movesTo, h]

theorem State.movesTo_of_move {s u : State} {w : TagView} (m : TagMove s.tagView w) (h : u.tagView = w) : s.movesTo u :=
  Relation.ReflTransGen.single (by rwa [h])

/-- A change outside the view may come before. -/
theorem State.movesTo.after_eq {s u w : State} (h : u.movesTo w) (hu : u.tagView = s.tagView) : s.movesTo w :=
  (State.movesTo_of_eq hu).trans h

/-- A change outside the view may follow. -/
theorem State.movesTo.then_eq {s u w : State} (h : s.movesTo u) (hw : w.tagView = u.tagView) : s.movesTo w :=
  h.trans (State.movesTo_of_eq hw)

/-- A step that takes place under a condition alone (log 1). -/
theorem State.movesTo_ite {s u : State} {p : Prop} [Decidable p] (h : p → s.movesTo u) : s.movesTo (if p then u else s) := by
  split
  · rename_i hp
    exact h hp
  · exact State.movesTo_of_eq rfl

/-- What every move keeps is kept along moves. -/
theorem State.movesTo.keeps {s u : State} {P : TagView → Prop} (h : s.movesTo u)
    (hP : ∀ v w, TagMove v w → P v → P w) (hs : P s.tagView) : P u.tagView := by
  have hall : ∀ w, Relation.ReflTransGen TagMove s.tagView w → P w := fun w hw => by
    induction hw with
    | refl => exact hs
    | tail _ m ih => exact hP _ _ m ih
  exact hall _ h

/-! ### What leaves the view as it is -/

theorem State.setBank_tagView (s : State) (t : Tag) (b : Bank) : (s.setBank t b).tagView = s.tagView.setBank t b.state := by
  cases t <;> rfl

theorem State.modifyBank_tagView (s : State) (t : Tag) (f : Bank → Bank) :
    (s.modifyBank t f).tagView = s.tagView.setBank t (f (s.bank t)).state := s.setBank_tagView t _

/-- A change of a bank that keeps its state keeps the view. -/
theorem State.modifyBank_tagView_of_state (s : State) (t : Tag) (f : Bank → Bank) (h : ∀ b, (f b).state = b.state) :
    (s.modifyBank t f).tagView = s.tagView := by
  rw [State.modifyBank_tagView, h]
  cases t <;> rfl

theorem State.modifyOpen_tagView (s : State) (f : Bank → Bank) (h : ∀ b, (f b).state = b.state) :
    (s.modifyOpen f).tagView = s.tagView := s.modifyBank_tagView_of_state _ f h

theorem State.withStage_tagView (s : State) (x : Stage) :
    State.tagView { s with ic := { s.ic with stage := x } } = { s.tagView with stage := x } := rfl

@[simp] theorem State.setCauseIf_tagView (s : State) (p : Bool) (c : Cause) : (s.setCauseIf p c).tagView = s.tagView := by
  cases p <;> rfl

theorem State.reject_tagView (s : State) (c : Cause) : (s.reject c).tagView = s.tagView :=
  s.modifyOpen_tagView _ fun _ => rfl

theorem State.checkSequence_tagView (s : State) (r : BitVec 3) : (s.checkSequence r).tagView = s.tagView := by
  unfold State.checkSequence
  dsimp only
  split
  · rfl
  · exact State.modifyOpen_tagView _ _ fun _ => rfl

theorem State.accumulate_tagView (s : State) (x : Sample) : (s.accumulate x).tagView = s.tagView := by
  unfold State.accumulate
  dsimp only
  split
  · rfl
  · exact (State.setCauseIf_tagView _ _ _).trans (State.modifyBank_tagView_of_state _ _ _ fun _ => rfl)

theorem State.offerRecord_tagView (s : State) (r : Record) : (s.offerRecord r).tagView = s.tagView := by
  simp [State.tagView]

theorem State.buildDueGap_tagView (s : State) : s.buildDueGap.tagView = s.tagView := by simp [State.tagView]

theorem State.creditRecord_tagView (s : State) (r : Record) : (s.creditRecord r).tagView = s.tagView := by
  simp [State.tagView]

theorem State.secondCounted_tagView (s : State) : s.secondCounted.tagView = s.tagView := by
  unfold State.secondCounted State.openBank
  cases s.openTag <;> rfl

/-! ### Intake and engine -/

theorem State.arrive_moves (s : State) (c : Fin 6) (value : BitVec 24) : s.movesTo (s.arrive c value) := by
  unfold State.arrive
  split
  · rename_i room
    exact State.movesTo_of_move (.arrive c value room) rfl
  · exact State.movesTo_of_eq (s.modifyOpen_tagView _ fun _ => rfl)

theorem State.intake_moves (s : State) (host : Bool) (n : Nat) (value : BitVec 24) (c : Cause) :
    s.movesTo (s.intake host n value c) := by
  unfold State.intake
  dsimp only
  split
  · split
    · exact s.arrive_moves _ value
    · exact State.movesTo_of_eq (s.reject_tagView c)
  · exact State.movesTo_of_eq (s.reject_tagView c)

theorem State.decideFrame_moves (s : State) (w : Word) : s.movesTo (s.decideFrame w) := by
  unfold State.decideFrame
  split
  · exact State.movesTo_of_eq (s.reject_tagView _)
  · exact (State.intake_moves _ _ _ _ _).after_eq (s.checkSequence_tagView _)

theorem State.linkEdge_moves (s : State) (lfs lda : Bool) : s.movesTo (s.linkEdge lfs lda) := by
  unfold State.linkEdge
  split
  · split
    · exact State.movesTo_of_eq rfl
    · exact State.movesTo_of_eq (s.reject_tagView _)
    · exact State.movesTo_of_eq rfl
    · split
      · exact State.movesTo_of_eq rfl
      · exact (State.decideFrame_moves _ _).after_eq rfl
  · exact State.movesTo_of_eq rfl

theorem State.drainCheck_moves (s : State) : s.movesTo s.drainCheck := by
  have hview : s.drainCheck.tagView = { s.tagView with stage := s.drainCheck.ic.stage } := by simp [State.tagView]
  rw [State.drainCheck_ic] at hview
  split at hview
  · rename_i h
    exact State.movesTo_of_move (.drained h.1 h.2) hview
  · exact State.movesTo_of_eq hview

theorem State.take_moves (s : State) : s.movesTo { s with main := s.main.take } := by
  unfold MainDomain.take
  split
  · rename_i idle front
    exact State.movesTo_of_move (.take idle front) rfl
  · exact State.movesTo_of_eq rfl

theorem State.finish_moves (s : State) : s.movesTo { s with main := { s.main with engine := none } } :=
  State.movesTo_of_move (.finish _) rfl

theorem State.completeAccumulation_moves (s : State) (x : Sample) : s.movesTo (s.completeAccumulation x) := by
  have hfinish := (s.accumulate x).finish_moves.after_eq (s.accumulate_tagView x)
  exact (hfinish.trans (State.take_moves _)).trans (State.drainCheck_moves _)

theorem State.discardSamples_moves (s : State) : s.movesTo s.discardSamples := by
  refine State.movesTo.trans (State.movesTo_of_move (.discard _) ?_) (State.drainCheck_moves _)
  simp [State.tagView, State.countDropped]

/-! ### Openings and closes -/

theorem State.opening_tagView (s : State) (k : Trigger) (t : DateTime) (v : Bool) (tag : Tag) :
    (s.opening k t v tag).tagView = s.tagView.setBank tag .opened := by
  rw [State.opening_eq]
  cases tag <;> rfl

theorem State.triggerClose_moves (s : State) (k : Trigger) (t : DateTime) (v : Bool) (idle : s.ic.stage = .idle) :
    s.movesTo (s.triggerClose k t v) := by
  refine State.movesTo.trans (State.movesTo_of_move (.trigger idle) ?_) (State.drainCheck_moves _)
  rw [State.withStage_tagView, State.opening_tagView, State.modifyBank_tagView]
  rfl

theorem State.missInterval_moves (s : State) (t : DateTime) (v : Bool) : s.movesTo (s.missInterval t v) :=
  State.movesTo_of_move (.reopen _) (State.opening_tagView _ _ _ _ _)

theorem State.actOnBoundary_moves (s : State) (t : DateTime) (v : Bool) (supply : SupplyState) (found : BackupBoundary)
    (idle : s.ic.stage = .idle) : s.movesTo (s.actOnBoundary t v supply found) := by
  unfold State.actOnBoundary
  split
  · exact s.missInterval_moves t v
  · exact (State.triggerClose_moves _ _ _ _ (by exact idle)).after_eq rfl

theorem State.idle_of_not_closeBusy {s : State} (h : s.closeBusy = false) : s.ic.stage = .idle := by
  simpa [State.closeBusy] using h

theorem State.boundary_moves (s : State) (t : DateTime) (v : Bool) : s.movesTo (s.boundary t v) := by
  unfold State.boundary
  split
  · exact State.movesTo_of_eq rfl
  · rename_i h
    exact s.actOnBoundary_moves _ _ _ _ (State.idle_of_not_closeBusy (by simpa using h))

theorem State.secondEvent_moves (s : State) : s.movesTo s.secondEvent := by
  have hcount : s.movesTo s.secondCounted := State.movesTo_of_eq s.secondCounted_tagView
  rw [State.secondEvent_eq]
  split
  · exact hcount.trans (s.secondCounted.boundary_moves _ _)
  · exact hcount

theorem State.releaseDeferred_moves (s : State) (idle : s.ic.stage = .idle) : s.movesTo s.releaseDeferred := by
  unfold State.releaseDeferred
  split
  · exact State.movesTo_of_eq rfl
  · exact (State.actOnBoundary_moves _ _ _ _ _ (by exact idle)).after_eq rfl

theorem State.completeClose_moves (s : State) (storing : s.ic.stage = .store) : s.movesTo s.completeClose := by
  refine State.movesTo.trans (State.movesTo_of_move (.complete storing) ?_) (State.releaseDeferred_moves _ (by simp))
  rw [State.buildDueGap_tagView]
  exact congrArg (fun w : TagView => { w with stage := .idle }) (s.setBank_tagView s.openTag.other _)

theorem State.creditStage_moves (s : State) (crediting : s.ic.stage = .credit) : s.movesTo s.creditStage := by
  refine State.movesTo_of_move (.credit crediting) ?_
  unfold State.creditStage
  split
  · exact congrArg (fun w : TagView => { w with stage := .store }) (s.creditRecord_tagView _)
  · rfl

theorem State.storeStage_moves (s : State) (storing : s.ic.stage = .store) : s.movesTo s.storeStage := by
  unfold State.storeStage
  split
  · exact (State.completeClose_moves _ (by simpa using storing)).after_eq (s.offerRecord_tagView _)
  · exact s.completeClose_moves storing

/-! ### Commands -/

theorem State.movesTo.complete {s u : State} (h : s.movesTo u) (code : Byte) (r : CmdResult) : s.movesTo (u.complete code r) :=
  h.then_eq rfl

theorem State.doSoftReset_moves (s : State) : s.movesTo s.doSoftReset := by
  refine s.discardSamples_moves.trans (State.movesTo_of_move (.discard _) ?_)
  unfold State.doSoftReset
  dsimp only
  split <;> rfl

theorem State.doTimeLoad_moves (s : State) (idle : s.ic.stage = .idle) : s.movesTo s.doTimeLoad := by
  unfold State.doTimeLoad
  dsimp only
  split
  · refine State.movesTo.complete ?_ _ _
    exact (State.triggerClose_moves _ _ _ _ (by exact idle)).after_eq rfl
  · exact State.movesTo_of_eq rfl

theorem State.doTimeTrim_tagView (s : State) (arg : Byte) : (s.doTimeTrim arg).tagView = s.tagView := by
  unfold State.doTimeTrim
  (repeat' split) <;> rfl

theorem State.doCommitAtNext_tagView (s : State) : s.doCommitAtNext.tagView = s.tagView := by
  unfold State.doCommitAtNext
  dsimp only
  (repeat' split) <;> rfl

theorem State.doCommitNow_moves (s : State) (idle : s.ic.stage = .idle) : s.movesTo s.doCommitNow := by
  unfold State.doCommitNow
  split
  · exact (s.triggerClose_moves _ _ _ idle).complete _ _
  · split
    · exact State.movesTo.complete ((s.validated.triggerClose_moves _ _ _ idle).after_eq rfl) _ _
    · exact State.movesTo_of_eq rfl

theorem State.doConfigCommit_moves (s : State) (arg : Byte) (idle : arg = 1 → s.ic.stage = .idle) :
    s.movesTo (s.doConfigCommit arg) := by
  unfold State.doConfigCommit
  split
  · exact State.movesTo_of_eq s.doCommitAtNext_tagView
  · split
    · rename_i h
      exact s.doCommitNow_moves (idle h)
    · exact State.movesTo_of_eq rfl

theorem State.doConfigCancel_tagView (s : State) : s.doConfigCancel.tagView = s.tagView := by
  unfold State.doConfigCancel
  split <;> rfl

theorem State.doConfigFetch_tagView (s : State) : s.doConfigFetch.tagView = s.tagView := by
  unfold State.doConfigFetch
  split <;> rfl

theorem State.doRecordOpen_tagView (s : State) : s.doRecordOpen.tagView = s.tagView := by
  unfold State.doRecordOpen
  split <;> rfl

theorem State.doRecordRelease_tagView (s : State) : s.doRecordRelease.tagView = s.tagView := by
  unfold State.doRecordRelease
  split <;> rfl

/-- A command's owner moves the view; a command that waits for a close is handed over with none in progress (R174). -/
theorem State.owner_moves (s : State) (c : Cmd) (arg : Byte) (idle : c.waits arg = true → s.ic.stage = .idle) :
    s.movesTo (s.owner c arg) := by
  cases c with
  | timeLoad => exact s.doTimeLoad_moves (idle rfl)
  | timeTrim => exact State.movesTo_of_eq (s.doTimeTrim_tagView arg)
  | configCommit => exact s.doConfigCommit_moves arg fun h => idle (by simp [Cmd.waits, h])
  | configCancel => exact State.movesTo_of_eq s.doConfigCancel_tagView
  | configFetch => exact State.movesTo_of_eq s.doConfigFetch_tagView
  | forceClose => exact (s.triggerClose_moves _ _ _ (idle rfl)).complete _ _
  | snapshot | totalsClear | demandReset | queueFlush => exact State.movesTo_of_eq rfl
  | recordOpen => exact State.movesTo_of_eq s.doRecordOpen_tagView
  | recordRelease => exact State.movesTo_of_eq s.doRecordRelease_tagView
  | softReset => exact s.doSoftReset_moves

theorem State.commandRow_moves (s : State) (c : Cmd) (arg : Byte) : s.movesTo (s.commandRow c arg) :=
  State.commandRow_holds (P := s.movesTo) c arg (State.movesTo_of_eq rfl) (State.movesTo_of_eq rfl)
    (fun _ => State.movesTo_of_eq rfl) (fun _ => State.movesTo_of_eq rfl)
    fun idle => (State.owner_moves _ c arg (by exact idle)).after_eq rfl

theorem State.handOver_moves (s : State) : s.movesTo s.handOver := by
  unfold State.handOver
  split
  · rename_i h
    split
    · exact s.owner_moves _ _ fun _ => State.idle_of_not_closeBusy h.2
    · exact State.movesTo_of_eq rfl
  · exact State.movesTo_of_eq rfl

theorem State.takeUnknown_tagView (s : State) (code : Byte) : (s.takeUnknown code).tagView = s.tagView := by
  unfold State.takeUnknown
  split <;> rfl

/-! ### Supplies and the crystal -/

theorem State.enterBackup_moves (s : State) : s.movesTo s.enterBackup := by
  refine State.movesTo.trans (State.movesTo.after_eq (State.discardSamples_moves _) ?_) (State.movesTo_of_move (.discard _) rfl)
  exact State.modifyOpen_tagView _ _ fun _ => rfl

theorem State.reportAbandoned_tagView (s : State) : s.reportAbandoned.tagView = s.tagView := by
  unfold State.reportAbandoned
  split <;> rfl

theorem State.returnToMain_moves (s : State) : s.movesTo s.returnToMain := by
  refine State.movesTo_of_move (.discard _) ?_
  exact (State.buildDueGap_tagView _).trans (State.reportAbandoned_tagView _)

theorem State.coldStart_moves (s : State) (vddOk : Bool) : s.movesTo (s.coldStart vddOk) :=
  State.movesTo_of_move (.cold _) (State.opening_tagView _ _ _ _ _)

theorem State.edges_moves (s : State) (before : EventUnit) : s.movesTo (s.edges before) := by
  have hsettle : s.movesTo s.settle := by
    unfold State.settle
    split
    · split
      · exact s.returnToMain_moves
      · exact State.movesTo_of_eq rfl
    · exact State.movesTo_of_eq rfl
  exact hsettle.then_eq rfl

theorem State.phaseStep_moves (s : State) : s.movesTo s.phaseStep := by
  unfold State.phaseStep
  split
  · exact State.movesTo_of_eq rfl
  · exact s.secondEvent_moves

theorem State.crystalPeriod_moves (s : State) : s.movesTo s.crystalPeriod := by
  unfold State.crystalPeriod
  dsimp only
  split
  · split
    · exact (s.edges_moves _).trans (State.phaseStep_moves _)
    · have hcount : s.movesTo { s with freeCount := s.freeCount + 1 } := State.movesTo_of_eq rfl
      split
      · exact (hcount.trans (State.phaseStep_moves _)).trans (State.edges_moves _ _)
      · exact (hcount.trans (State.edges_moves _ _)).trans (State.phaseStep_moves _)
  · exact State.movesTo_of_eq rfl

/-! ### The register window -/

/-- A byte of a writable field keeps the view where the field's effect does. -/
theorem State.fieldWrite_tagView (s : State) (select : Reg → Bool) (b : Byte) (act : Reg → List Byte → State → State)
    (h : ∀ r bytes u, (act r bytes u).tagView = u.tagView) : (s.fieldWrite select b act).tagView = s.tagView :=
  State.fieldWrite_holds (P := fun u => u.tagView = s.tagView) select b act rfl rfl fun r bytes _ => h r bytes _

theorem State.readByte_tagView (s : State) : s.readByte.2.tagView = s.tagView := by
  unfold State.readByte
  split
  · rfl
  · split
    · unfold State.readRecordByte
      dsimp only
      split
      · split
        · exact State.setCauseIf_tagView _ _ _
        · rfl
      · rfl
    · unfold State.captured
      (repeat' split) <;> rfl

theorem State.putPage_tagView (s : State) (b : Byte) : (s.putPage b).tagView = s.tagView := by
  unfold State.putPage
  split <;> rfl

theorem State.putSelect_tagView (s : State) (r : Reg) (b : Byte) : (s.putSelect r b).tagView = s.tagView := by
  unfold State.putSelect
  (repeat' split) <;> rfl

theorem State.putStaged_tagView (s : State) (r : Reg) (bytes : List Byte) : (s.putStaged r bytes).tagView = s.tagView := by
  unfold State.putStaged
  split <;> rfl

theorem State.putMode_tagView (s : State) (pin : EventPin) (b : Byte) : (s.putMode pin b).tagView = s.tagView := by
  unfold State.putMode
  split <;> rfl

theorem State.putSnapItem_tagView (s : State) (channel tariff : Nat) : (s.putSnapItem channel tariff).tagView = s.tagView := by
  unfold State.putSnapItem
  split <;> rfl

/-! ### Every command, every step -/

/-- Every command moves the view: the rows of the link and the port, the engine, the close and the supplies by the moves of their
own rules, the rows of the window not at all. -/
theorem exec_moves {c : Instr} {s t : State} (h : exec c s = .next t) : s.movesTo t := by
  cases c <;> cases h
  case linkFrame lda => exact s.linkEdge_moves false lda
  case frameTruncated lda => exact s.linkEdge_moves true lda
  case linkBit lfs lda => exact s.linkEdge_moves lfs lda
  case sampleEntryGroup b => exact State.movesTo_ite fun _ => (State.intake_moves _ _ _ _ _).after_eq rfl
  case engineTake => exact State.movesTo_ite fun _ => s.take_moves
  case accumulation =>
    split
    · exact State.movesTo_ite fun _ => s.completeAccumulation_moves _
    · exact State.movesTo_of_eq rfl
  case secondEvent => exact State.movesTo_ite fun _ => s.secondEvent_moves
  case build => exact State.movesTo_ite fun building => State.movesTo_of_move (.build building) rfl
  case credit => exact State.movesTo_ite fun crediting => s.creditStage_moves crediting
  case store => exact State.movesTo_ite fun storing => s.storeStage_moves storing
  case commandHandover => exact s.handOver_moves
  case backupEntry => exact State.movesTo_ite fun _ => s.enterBackup_moves
  case backupReturn => exact State.movesTo_ite fun _ => s.returnToMain_moves
  case supplyLoss => exact State.movesTo_of_move (.cold _) rfl
  case coldStart vddOk => exact s.coldStart_moves vddOk
  case configCommitAtNext arg =>
    split
    · exact State.movesTo_of_eq rfl
    · exact s.commandRow_moves .configCommit arg
  case configCommitNow => exact s.commandRow_moves .configCommit 1
  case timeLoad arg => exact s.commandRow_moves .timeLoad arg
  case timeTrim arg => exact s.commandRow_moves .timeTrim arg
  case configCancel arg => exact s.commandRow_moves .configCancel arg
  case configFetch arg => exact s.commandRow_moves .configFetch arg
  case forceClose arg => exact s.commandRow_moves .forceClose arg
  case snapshot arg => exact s.commandRow_moves .snapshot arg
  case totalsClear arg => exact s.commandRow_moves .totalsClear arg
  case demandReset arg => exact s.commandRow_moves .demandReset arg
  case recordOpen arg => exact s.commandRow_moves .recordOpen arg
  case recordRelease arg => exact s.commandRow_moves .recordRelease arg
  case queueFlush arg => exact s.commandRow_moves .queueFlush arg
  case softReset arg => exact s.commandRow_moves .softReset arg
  case unknownCommand =>
    exact State.commandByte_holds (P := s.movesTo) _ _ (State.movesTo_of_eq rfl) (State.movesTo_of_eq rfl) fun code =>
      State.movesTo_of_eq (State.takeUnknown_tagView _ code)
  case csnFall =>
    refine State.movesTo_ite fun _ => State.movesTo_of_eq ?_
    dsimp only
    split <;> rfl
  case csnRise =>
    refine State.movesTo_of_eq ?_
    split
    · rfl
    · dsimp only
      split
      · exact State.setCauseIf_tagView _ _ _
      · rfl
  case recordDataRead => exact State.movesTo_ite fun _ => State.movesTo_of_eq s.readByte_tagView
  case readOnlyWrite =>
    split
    · exact State.movesTo_ite fun _ => State.movesTo_of_eq rfl
    · exact State.movesTo_ite fun _ => State.movesTo_of_eq rfl
  case fieldLatchByte =>
    refine State.movesTo_of_eq ?_
    (repeat' split) <;> rfl
  case pageWrite b => exact State.movesTo_of_eq (s.fieldWrite_tagView _ b _ fun _ _ u => u.putPage_tagView b)
  case slotSelectWrite b => exact State.movesTo_of_eq (s.fieldWrite_tagView _ b _ fun r _ u => u.putSelect_tagView r b)
  case stagedFieldWrite b => exact State.movesTo_of_eq (s.fieldWrite_tagView _ b _ fun r bytes u => u.putStaged_tagView r bytes)
  case modeWrite b => exact State.movesTo_of_eq (s.fieldWrite_tagView _ b _ fun r _ u => u.putMode_tagView r.pin b)
  case snapItemWrite b => exact State.movesTo_of_eq (s.fieldWrite_tagView _ b _ fun _ _ u => u.putSnapItem_tagView _ _)
  case queuePolicyWrite b =>
    refine State.movesTo_of_eq (s.fieldWrite_tagView _ b _ fun _ _ u => ?_)
    (repeat' split) <;> rfl
  case causeClear b | maskWrite b | levelThresholdWrite b | registerWrite b =>
    exact State.movesTo_of_eq (s.fieldWrite_tagView _ b _ fun _ _ _ => rfl)
  case addressByte | sampleEntryByte | secondMarkerRise | settlingStart | settlingAbort | pulseStart | pulseEnd =>
    exact State.movesTo_ite fun _ => State.movesTo_of_eq rfl
  case recordMemoryFault =>
    refine State.movesTo_of_eq ?_
    split <;> rfl
  case oscillatorStop | oscillatorRestart => exact State.movesTo_of_eq rfl

/-- Every step moves the view. -/
theorem step_moves {s t : State} (h : step s = .next t) : s.movesTo t := by
  unfold step at h
  split at h
  · cases h
    exact s.crystalPeriod_moves
  · exact (exec_moves h).after_eq rfl

/-! ### The invariants -/

theorem step_keeps_banksInv {s t : State} (hs : s.banksInv) (h : step s = .next t) : t.banksInv :=
  t.banksInv_iff.mpr ((step_moves h).keeps (fun _ _ m => m.keeps_banks) (s.banksInv_iff.mp hs))

theorem step_keeps_samplesInv {s t : State} (hs : s.samplesInv) (h : step s = .next t) : t.samplesInv :=
  t.samplesInv_iff.mpr ((step_moves h).keeps (fun _ _ m => m.keeps_samples) (s.samplesInv_iff.mp hs))

/-- Settles O55: every step is a sequence of moves of the banks, the close stage and the entries in flight, and every move keeps
both invariants. -/
theorem stepKeepsBanksAndTags : Obligations.StepKeepsBanksAndTags :=
  ⟨fun _ _ => step_keeps_banksInv, fun _ _ => step_keeps_samplesInv, fun _ => State.tagsOrdered_of_inv⟩

end Sys2Proof.Machine
end

section
/-! SUPPORT. The arithmetic of the scaling engine, once each: the signed limits, the two roundings, the scaled value (R21 to R23),
the accumulator and a per-channel state's flags and count (R30 to R34). -/

namespace Sys2Proof.Machine

/-! ### Signed limits -/

theorem clampSigned_eq_ite (w : Nat) (x : Int) :
    clampSigned w x =
      if x < -(2 ^ (w - 1)) then -(2 ^ (w - 1)) else if 2 ^ (w - 1) - 1 < x then 2 ^ (w - 1) - 1 else x := by
  have limit_pos : (0 : Int) < 2 ^ (w - 1) := by positivity
  unfold clampSigned
  split_ifs <;> omega

theorem fitsSigned_iff (w : Nat) (x : Int) : fitsSigned w x = true ↔ -(2 ^ (w - 1)) ≤ x ∧ x ≤ 2 ^ (w - 1) - 1 := by
  simp only [fitsSigned, Bool.and_eq_true, decide_eq_true_eq]

theorem not_fitsSigned_eq (w : Nat) (x : Int) :
    (!fitsSigned w x) = decide (x < -(2 ^ (w - 1)) ∨ 2 ^ (w - 1) - 1 < x) := by
  rw [Bool.eq_iff_iff, Bool.not_eq_true', ← Bool.not_eq_true, fitsSigned_iff, decide_eq_true_iff]
  omega

theorem fitsSigned_clampSigned (w : Nat) (x : Int) : fitsSigned w (clampSigned w x) = true := by
  have limit_pos : (0 : Int) < 2 ^ (w - 1) := by positivity
  rw [fitsSigned_iff, clampSigned_eq_ite]
  split_ifs <;> omega

/-- The limit acts exactly on what is outside the range. -/
theorem clampSigned_ne_self_iff (w : Nat) (x : Int) :
    clampSigned w x ≠ x ↔ x < -(2 ^ (w - 1)) ∨ 2 ^ (w - 1) - 1 < x := by
  rw [clampSigned_eq_ite]
  split_ifs <;> omega

/-! ### Rounding -/

/-- FLOOR is the greatest integer not above the quotient. -/
theorem roundedShift_floor_bounds (k : Nat) (x : Int) :
    2 ^ k * roundedShift false k x ≤ x ∧ x < 2 ^ k * (roundedShift false k x + 1) := by
  have power_pos : (0 : Int) < 2 ^ k := by positivity
  rw [Int.mul_add, Int.mul_one]
  exact ⟨Int.mul_ediv_self_le power_pos.ne', Int.lt_mul_ediv_self_add power_pos⟩

/-- NEAREST is FLOOR with half of the divisor added. -/
theorem roundedShift_nearest (k : Nat) (x : Int) : roundedShift true k x = roundedShift false k (x + 2 ^ (k - 1)) := rfl

/-- A product between −2^38 and 2^38 − 2^15 is scaled into the fraction range by either rounding. -/
theorem roundedShift_mem_fraction {x : Int} (nearest : Bool) (low : -274877906944 ≤ x) (high : x ≤ 274877874176) :
    -8388608 ≤ roundedShift nearest 15 x ∧ roundedShift nearest 15 x ≤ 8388607 := by
  cases nearest with
  | false =>
    have := roundedShift_floor_bounds 15 x
    omega
  | true =>
    rw [roundedShift_nearest]
    have := roundedShift_floor_bounds 15 (x + 2 ^ (15 - 1))
    omega

/-- The product of a fraction value and a gain lies between −2^38 and 2^38 − 2^15 but for the pair of the least values (R23). -/
theorem fraction_mul_gain_bounds {d g : Int} (d_low : -8388608 ≤ d) (d_high : d ≤ 8388607) (g_low : -32768 ≤ g)
    (g_high : g ≤ 32767) (not_least : ¬ (d = -8388608 ∧ g = -32768)) :
    -274877906944 ≤ d * g ∧ d * g ≤ 274877874176 := by
  by_cases hg : g = -32768
  · subst hg
    omega
  · have d_abs : |d| ≤ 8388608 := abs_le.mpr ⟨d_low, by omega⟩
    have g_abs : |g| ≤ 32767 := abs_le.mpr ⟨by omega, g_high⟩
    have product_abs : |d * g| ≤ 8388608 * 32767 := by
      rw [abs_mul]
      exact mul_le_mul d_abs g_abs (abs_nonneg g) (by decide)
    have := abs_le.mp product_abs
    omega

/-! ### The scaled value -/

namespace ChannelEntry

/-- The offset-corrected value, with the limits of R21 as numbers. -/
theorem corrected_eq (e : ChannelEntry) (sample : BitVec 24) :
    e.corrected sample =
      if sample.toInt - e.offset.toInt < -8388608 then -8388608
      else if 8388607 < sample.toInt - e.offset.toInt then 8388607 else sample.toInt - e.offset.toInt :=
  clampSigned_eq_ite 24 _

theorem corrected_bounds (e : ChannelEntry) (sample : BitVec 24) :
    -8388608 ≤ e.corrected sample ∧ e.corrected sample ≤ 8388607 :=
  (fitsSigned_iff 24 _).mp (fitsSigned_clampSigned 24 _)

theorem gain_bounds (e : ChannelEntry) : -32768 ≤ e.gain.toInt ∧ e.gain.toInt ≤ 32767 :=
  ⟨e.gain.le_toInt, Int.le_sub_one_of_lt e.gain.toInt_lt⟩

theorem special_iff (e : ChannelEntry) (sample : BitVec 24) :
    e.special sample = true ↔ e.corrected sample = -8388608 ∧ e.gain.toInt = -32768 := by
  simp only [special, Bool.and_eq_true, beq_iff_eq]
  rfl

theorem scaled_of_special {e : ChannelEntry} {sample : BitVec 24}
    (h : e.corrected sample = -8388608 ∧ e.gain.toInt = -32768) : e.scaled sample = 8388607 :=
  if_pos ((e.special_iff sample).mpr h)

theorem scaled_of_not_special {e : ChannelEntry} {sample : BitVec 24}
    (h : ¬ (e.corrected sample = -8388608 ∧ e.gain.toInt = -32768)) :
    e.scaled sample = roundedShift e.nearest 15 (e.corrected sample * e.gain.toInt) :=
  if_neg ((e.special_iff sample).not.mpr h)

theorem nearest_eq_true {e : ChannelEntry} (h : e.rounding = 1) : e.nearest = true := beq_iff_eq.mpr h

theorem nearest_eq_false {e : ChannelEntry} (h : e.rounding ≠ 1) : e.nearest = false := beq_eq_false_iff_ne.mpr h

theorem saturates_iff (e : ChannelEntry) (sample : BitVec 24) :
    e.saturates sample = true ↔
      sample.toInt - e.offset.toInt < -8388608 ∨ 8388607 < sample.toInt - e.offset.toInt ∨
        e.corrected sample = -8388608 ∧ e.gain.toInt = -32768 := by
  have clamped : e.corrected sample ≠ e.difference sample ↔ _ := clampSigned_ne_self_iff 24 _
  rw [saturates, Bool.or_eq_true, bne_iff_ne, clamped, or_assoc, special_iff]
  rfl

theorem scaled_bounds (e : ChannelEntry) (sample : BitVec 24) : -8388608 ≤ e.scaled sample ∧ e.scaled sample ≤ 8388607 := by
  by_cases h : e.corrected sample = -8388608 ∧ e.gain.toInt = -32768
  · rw [scaled_of_special h]
    decide
  · obtain ⟨d_low, d_high⟩ := e.corrected_bounds sample
    obtain ⟨g_low, g_high⟩ := e.gain_bounds
    obtain ⟨low, high⟩ := fraction_mul_gain_bounds d_low d_high g_low g_high h
    rw [scaled_of_not_special h]
    exact roundedShift_mem_fraction e.nearest low high

end ChannelEntry

/-- Settles O15: the limits of the difference, the two roundings of the product and the special pair, each by its lemma. -/
theorem scaledValueIsTheRoundedQuotient : Obligations.ScaledValueIsTheRoundedQuotient := by
  intro e sample
  dsimp only
  rw [← e.corrected_eq sample]
  refine ⟨(e.scaled_bounds sample).2, (e.scaled_bounds sample).1, ?_, e.saturates_iff sample⟩
  split_ifs with least nearest
  · exact ChannelEntry.scaled_of_special least
  · rw [ChannelEntry.scaled_of_not_special least, ChannelEntry.nearest_eq_true nearest]
    exact roundedShift_floor_bounds 15 (e.corrected sample * e.gain.toInt + 2 ^ 14)
  · rw [ChannelEntry.scaled_of_not_special least, ChannelEntry.nearest_eq_false nearest]
    exact roundedShift_floor_bounds 15 (e.corrected sample * e.gain.toInt)

/-! ### The accumulator -/

/-- SATURATE (R31): the accumulator is the true sum limited to its range. -/
theorem toInt_accumulator_saturate (sum : Int) : (accumulator false sum).toInt = clampSigned 48 sum := by
  obtain ⟨low, high⟩ := (fitsSigned_iff 48 _).mp (fitsSigned_clampSigned 48 sum)
  exact BitVec.toInt_ofInt_eq_self (by decide) low (Int.lt_of_le_sub_one high)

/-- WRAP (R32): a true sum that crosses a limit at most once is taken back by 2^48. -/
theorem toInt_accumulator_wrap {sum : Int} (low : -422212465065984 ≤ sum) (high : sum < 422212465065984) :
    (accumulator true sum).toInt =
      if 140737488355327 < sum then sum - 281474976710656
      else if sum < -140737488355328 then sum + 281474976710656 else sum := by
  have reduced : (accumulator true sum).toInt = sum.bmod (2 ^ 48) := BitVec.toInt_ofInt sum
  rw [reduced, Int.bmod_def]
  split_ifs <;> omega

/-- Both policies, for a true sum that crosses a limit at most once. -/
theorem toInt_accumulator (wraps : Bool) {sum : Int} (low : -422212465065984 ≤ sum) (high : sum < 422212465065984) :
    (accumulator wraps sum).toInt =
      if 140737488355327 < sum then (if wraps then sum - 281474976710656 else 140737488355327)
      else if sum < -140737488355328 then (if wraps then sum + 281474976710656 else -140737488355328) else sum := by
  cases wraps with
  | true => simpa using toInt_accumulator_wrap low high
  | false =>
    rw [toInt_accumulator_saturate, clampSigned_eq_ite]
    simp only [Bool.false_eq_true, if_false]
    split_ifs <;> omega

/-- Settles O17: an increment moves the accumulator across a limit at most once, and the count is a saturating one. -/
theorem accumulatorPolicies : Obligations.AccumulatorPolicies := by
  intro c saturated i increment_low increment_high
  have acc_low : -140737488355328 ≤ c.acc.toInt := c.acc.le_toInt
  have acc_high : c.acc.toInt < 140737488355328 := c.acc.toInt_lt
  refine ⟨fun wraps => ⟨?_, toNat_satAdd c.count 1, ?_, rfl, rfl⟩, fun _ => rfl⟩
  · exact toInt_accumulator wraps (by omega) (by omega)
  · exact congrArg (c.accOvf || ·) (not_fitsSigned_eq 48 _)

end Sys2Proof.Machine
end

section
/-! SUPPORT. The conditions of validation (R67 to R70, R135) and the tariff lookup (R62, R63): each check of the model says what its
condition states, the first fault is the first failing entry in the order of examination, and in a set without a fault no two used
slots of a table have the same key, so the lookup has one slot to take. -/

namespace Sys2Proof.Machine

/-! ### The conditions on one entry -/

theorem ConfigSet.channelOk_iff (c : ConfigSet) (i : Fin 6) : c.channelOk i = true ↔ c.channelMeets i := by
  simp [ConfigSet.channelOk, ConfigSet.channelMeets, and_assoc, imp_iff_not_or]

/-- A slot is compared with the slots of lower index alone (R70). -/
theorem none_below_iff {n : Nat} (i : Fin n) (same : Fin n → Bool) :
    (!(List.finRange n).any fun j => j < i && same j) = true ↔ ∀ j < i, ¬ same j = true := by
  simp

theorem SchedSlot.inRange_iff (x : SchedSlot) :
    x.inRange = true ↔ x.used = 0 ∨ x.used = 1 ∧ x.dayType ≤ 3 ∧ x.hour ≤ 23 ∧ x.minute ≤ 59 ∧ x.tariff ≤ 3 := by
  simp [SchedSlot.inRange, and_assoc]

theorem SchedSlot.sameKey_iff (x y : SchedSlot) :
    x.sameKey y = true ↔ x.used = 1 ∧ y.used = 1 ∧ x.dayType = y.dayType ∧ x.hour = y.hour ∧ x.minute = y.minute := by
  simp [SchedSlot.sameKey, and_assoc]

theorem ConfigSet.schedOk_iff (c : ConfigSet) (i : Fin 20) : c.schedOk i = true ↔ c.scheduleMeets i := by
  rw [ConfigSet.schedOk, Bool.and_eq_true, SchedSlot.inRange_iff, none_below_iff]
  refine and_congr_right fun _ => forall₂_congr fun j _ => ?_
  rw [SchedSlot.sameKey_iff]
  tauto

theorem monthLength_le (year month : Nat) : monthLength year month ≤ 31 := by
  unfold monthLength
  split
  case h_1 => split_ifs <;> decide
  all_goals decide

/-- A flag byte in its range is 0 or 1. -/
theorem flag_le_one_iff (x : Byte) : x ≤ 1 ↔ x = 0 ∨ x = 1 := by
  bv_omega

/-- The limit of the day to 31 in the model's range check follows from the length of the month. -/
theorem SpecSlot.inRange_iff (x : SpecSlot) :
    x.inRange = true ↔ x.used = 0 ∨ x.used = 1 ∧ x.yearPresent ≤ 1 ∧ 1 ≤ x.month ∧ x.month ≤ 12 ∧ 1 ≤ x.day ∧
      (x.yearPresent = 1 → x.year ≤ 99) ∧ x.dayType ≤ 3 ∧
      x.day.toNat ≤ monthLength (if x.yearPresent = 1 then x.year.toNat else 0) x.month.toNat := by
  have month_le := monthLength_le (if x.yearPresent = 1 then x.year.toNat else 0) x.month.toNat
  have day_le (h : x.day.toNat ≤ monthLength (if x.yearPresent = 1 then x.year.toNat else 0) x.month.toNat) : x.day ≤ 31 :=
    BitVec.le_def.mpr (h.trans month_le)
  have year_le (h : x.yearPresent ≤ 1) : (x.yearPresent = 0 ∨ x.year ≤ 99) ↔ (x.yearPresent = 1 → x.year ≤ 99) := by
    rcases (flag_le_one_iff _).mp h with h | h <;> simp [h]
  simp only [SpecSlot.inRange, Bool.or_eq_true, Bool.and_eq_true, beq_iff_eq, decide_eq_true_eq, and_assoc]
  tauto

theorem SpecSlot.sameKey_iff (x y : SpecSlot) :
    x.sameKey y = true ↔ x.used = 1 ∧ y.used = 1 ∧ x.month = y.month ∧ x.day = y.day ∧ x.yearPresent = y.yearPresent ∧
      (x.yearPresent = 0 ∨ x.year = y.year) := by
  simp [SpecSlot.sameKey, and_assoc]

/-- The range check makes the year present field of a used slot a flag, so the years are compared exactly where it is 1. -/
theorem SpecSlot.sameKey_iff_of_flag {x y : SpecSlot} (flag : y.used = 1 → y.yearPresent ≤ 1) :
    x.sameKey y = true ↔ y.used = 1 ∧ x.used = 1 ∧ x.month = y.month ∧ x.day = y.day ∧ x.yearPresent = y.yearPresent ∧
      (y.yearPresent = 1 → x.year = y.year) := by
  have years (used : y.used = 1) (present : x.yearPresent = y.yearPresent) :
      (x.yearPresent = 0 ∨ x.year = y.year) ↔ (y.yearPresent = 1 → x.year = y.year) := by
    rcases (flag_le_one_iff _).mp (flag used) with h | h <;> simp [present, h]
  rw [SpecSlot.sameKey_iff]
  tauto

theorem ConfigSet.specOk_iff (c : ConfigSet) (i : Fin 16) : c.specOk i = true ↔ c.specialMeets i := by
  rw [ConfigSet.specOk, Bool.and_eq_true, SpecSlot.inRange_iff, none_below_iff]
  refine and_congr_right fun inRange => forall₂_congr fun j _ => ?_
  have flag (used : c.specials[i].used = 1) : c.specials[i].yearPresent ≤ 1 := by
    rcases inRange with unused | ⟨-, flag, -⟩
    · rw [unused] at used; cases used
    · exact flag
  rw [SpecSlot.sameKey_iff_of_flag flag]
  tauto

/-! ### The first fault -/

section FirstFault

variable {P : FaultTable × Nat → Prop} [DecidablePred P] {table : FaultTable}

/-- A value of the set is examined as a table of one entry. -/
theorem ite_eq_find?_tableEntries {p : Prop} [Decidable p] (h : p ↔ P (table, 0)) :
    (if p then none else some (table, 0)) = (tableEntries table 1).find? fun entry => !decide (P entry) := by
  by_cases hp : P (table, 0) <;> simp [tableEntries, h, hp]

/-- The first bad index of a table is the first of its entries that does not meet its condition. -/
theorem firstBad_eq_find?_tableEntries {n : Nat} {ok : Fin n → Bool} (h : ∀ i, ok i = true ↔ P (table, i.val)) :
    firstBad n table ok = (tableEntries table n).find? fun entry => !decide (P entry) := by
  have same : ok = fun i => decide (P (table, i.val)) := funext fun i => by simp [← h]
  rw [firstBad, tableEntries, ← List.map_coe_finRange_eq_range, List.map_map, List.find?_map, same]
  rfl

end FirstFault

theorem firstBad_eq_none_iff {n : Nat} (table : FaultTable) (ok : Fin n → Bool) :
    firstBad n table ok = none ↔ ∀ i, ok i = true := by
  simp [firstBad]

/-- `ConfigSet.meets` speaks of every index of a table that equals the one it is given. -/
theorem forall_val_eq_iff {n : Nat} (i : Fin n) (Q : Fin n → Prop) : (∀ j : Fin n, j.val = i.val → Q j) ↔ Q i :=
  ⟨fun h => h i rfl, fun h _ same => Fin.ext same ▸ h⟩

open Classical in
/-- The first fault of a set is the first entry in the order of examination that does not meet its conditions (R70, R135). -/
theorem ConfigSet.firstFault_eq_find? (c : ConfigSet) :
    c.firstFault = checkOrder.find? fun entry => !decide (c.meets entry) := by
  rw [checkOrder]
  simp only [List.flatten_cons, List.flatten_nil, List.append_nil, List.find?_append]
  rw [← ite_eq_find?_tableEntries (P := c.meets) (p := c.lengthCode ≤ 6) Iff.rfl,
    ← firstBad_eq_find?_tableEntries fun i => (c.channelOk_iff i).trans (forall_val_eq_iff i c.channelMeets).symm,
    ← firstBad_eq_find?_tableEntries fun i => decide_eq_true_iff.trans (forall_val_eq_iff i fun i => c.dayTypes[i] ≤ 3).symm,
    ← ite_eq_find?_tableEntries (P := c.meets) (p := c.defaultTariff ≤ 3) Iff.rfl,
    ← firstBad_eq_find?_tableEntries fun i => (c.schedOk_iff i).trans (forall_val_eq_iff i c.scheduleMeets).symm,
    ← firstBad_eq_find?_tableEntries fun i => (c.specOk_iff i).trans (forall_val_eq_iff i c.specialMeets).symm]
  simp only [ConfigSet.firstFault, Option.orElse_eq_orElse, Option.orElse_eq_or]

theorem ConfigSet.firstFault_eq_some_iff (c : ConfigSet) (fault : FaultTable × Nat) :
    c.firstFault = some fault ↔
      ∃ before rest, checkOrder = before ++ fault :: rest ∧ (∀ entry ∈ before, c.meets entry) ∧ ¬ c.meets fault := by
  classical
  rw [c.firstFault_eq_find?, List.find?_eq_some_iff_append]
  simp only [Bool.not_not, Bool.not_eq_true', decide_eq_true_eq, decide_eq_false_iff_not]
  tauto

theorem ConfigSet.firstFault_eq_none_iff (c : ConfigSet) :
    c.firstFault = none ↔
      c.lengthCode ≤ 6 ∧ (∀ i, c.channelMeets i) ∧ (∀ i : Fin 7, c.dayTypes[i] ≤ 3) ∧ c.defaultTariff ≤ 3 ∧
        (∀ i, c.scheduleMeets i) ∧ ∀ i, c.specialMeets i := by
  simp only [ConfigSet.firstFault, Option.orElse_eq_orElse, Option.orElse_eq_or, Option.or_eq_none_iff, ite_eq_left_iff,
    reduceCtorEq, imp_false, not_not, firstBad_eq_none_iff, c.channelOk_iff, decide_eq_true_iff, c.schedOk_iff, c.specOk_iff]

/-- Settles O53: the faultless sets by the checks one by one, the first fault by its place in the order of examination. -/
theorem validationConditions : Obligations.ValidationConditions :=
  ⟨ConfigSet.firstFault_eq_none_iff, ConfigSet.firstFault_eq_some_iff⟩

/-! ### One slot for each key -/

/-- Two indices of one key are equal where the lower indices of each one have been found to differ from it. -/
theorem eq_of_none_below {n : Nat} {same : Fin n → Fin n → Bool}
    (apart : ∀ i, (!(List.finRange n).any fun j => j < i && same j i) = true)
    (symm : ∀ i j, same i j = true → same j i = true) {i j : Fin n} (h : same i j = true) : i = j := by
  rcases lt_trichotomy i j with lt | eq | gt
  · exact absurd h ((none_below_iff j _).mp (apart j) i lt)
  · exact eq
  · exact absurd (symm i j h) ((none_below_iff i _).mp (apart i) j gt)

theorem SchedSlot.sameKey_symm {x y : SchedSlot} (h : x.sameKey y = true) : y.sameKey x = true := by
  rw [SchedSlot.sameKey_iff] at h ⊢
  tauto

theorem SpecSlot.sameKey_symm {x y : SpecSlot} (h : x.sameKey y = true) : y.sameKey x = true := by
  rw [SpecSlot.sameKey_iff] at h ⊢
  obtain ⟨used, used', month, day, present, year⟩ := h
  exact ⟨used', used, month.symm, day.symm, present.symm, year.imp (present ▸ ·) Eq.symm⟩

namespace ConfigSet

variable {c : ConfigSet}

theorem schedOk_of_firstFault (valid : c.firstFault = none) (i : Fin 20) : c.schedOk i = true := by
  obtain ⟨-, -, -, -, schedule, -⟩ := c.firstFault_eq_none_iff.mp valid
  exact (c.schedOk_iff i).mpr (schedule i)

theorem specOk_of_firstFault (valid : c.firstFault = none) (i : Fin 16) : c.specOk i = true := by
  obtain ⟨-, -, -, -, -, specials⟩ := c.firstFault_eq_none_iff.mp valid
  exact (c.specOk_iff i).mpr (specials i)

/-- The ranges of a used schedule slot (R67). -/
theorem schedule_inRange (valid : c.firstFault = none) {i : Fin 20} (used : c.schedule[i].used = 1) :
    c.schedule[i].hour ≤ 23 ∧ c.schedule[i].minute ≤ 59 ∧ c.schedule[i].tariff ≤ 3 := by
  obtain ⟨inRange, -⟩ := Bool.and_eq_true_iff.mp (schedOk_of_firstFault valid i)
  rcases (SchedSlot.inRange_iff _).mp inRange with unused | ⟨-, -, ranges⟩
  · rw [unused] at used; cases used
  · exact ranges

/-- No two used schedule slots have the same day type and time (R68). -/
theorem schedule_eq_of_sameKey (valid : c.firstFault = none) {i j : Fin 20}
    (same : c.schedule[i].sameKey c.schedule[j] = true) : i = j :=
  eq_of_none_below (same := fun i j => c.schedule[i].sameKey c.schedule[j])
    (fun i => (Bool.and_eq_true_iff.mp (schedOk_of_firstFault valid i)).2) (fun _ _ => SchedSlot.sameKey_symm) same

/-- No two used special-day slots have the same date key (R69). -/
theorem specials_eq_of_sameKey (valid : c.firstFault = none) {i j : Fin 16}
    (same : c.specials[i].sameKey c.specials[j] = true) : i = j :=
  eq_of_none_below (same := fun i j => c.specials[i].sameKey c.specials[j])
    (fun i => (Bool.and_eq_true_iff.mp (specOk_of_firstFault valid i)).2) (fun _ _ => SpecSlot.sameKey_symm) same

end ConfigSet

/-! ### Searching the slots of a table -/

theorem mem_toList_iff_exists {α : Type} {n : Nat} (v : Vector α n) (x : α) : x ∈ v.toList ↔ ∃ i : Fin n, v[i] = x := by
  rw [Vector.mem_toList_iff, Vector.mem_iff_getElem, Fin.exists_iff]
  rfl

theorem find?_toList_eq_none {α : Type} {n : Nat} {v : Vector α n} {p : α → Bool} (absent : ∀ i : Fin n, ¬ p v[i] = true) :
    v.toList.find? p = none := by
  rw [List.find?_eq_none]
  intro x hx
  obtain ⟨i, rfl⟩ := (mem_toList_iff_exists v x).mp hx
  exact absent i

/-- A search finds the slot at an index where that index alone is searched for. -/
theorem find?_toList_eq_some {α : Type} {n : Nat} {v : Vector α n} {p : α → Bool} {i : Fin n} (found : p v[i] = true)
    (only : ∀ j : Fin n, p v[j] = true → j = i) : v.toList.find? p = some v[i] := by
  have some_found : (v.toList.find? p).isSome = true :=
    List.find?_isSome.mpr ⟨v[i], (mem_toList_iff_exists v _).mpr ⟨i, rfl⟩, found⟩
  obtain ⟨x, h⟩ := Option.isSome_iff_exists.mp some_found
  obtain ⟨k, rfl⟩ := (mem_toList_iff_exists v x).mp (List.mem_of_find?_eq_some h)
  rw [h, only k (List.find?_some h)]

/-! ### The day type of a date -/

namespace SpecSlot

theorem dated_iff (x : SpecSlot) (t : DateTime) :
    x.dated t = true ↔
      (x.used = 1 ∧ x.month.toNat = t.month ∧ x.day.toNat = t.day) ∧ x.yearPresent = 1 ∧ x.year.toNat = t.year := by
  simp [dated, onDay, and_assoc]

theorem undated_iff (x : SpecSlot) (t : DateTime) :
    x.undated t = true ↔ (x.used = 1 ∧ x.month.toNat = t.month ∧ x.day.toNat = t.day) ∧ x.yearPresent = 0 := by
  simp [undated, onDay, and_assoc]

/-- Two slots that name a date with its year have one key. -/
theorem sameKey_of_dated {x y : SpecSlot} {t : DateTime} (hx : x.dated t = true) (hy : y.dated t = true) :
    x.sameKey y = true := by
  obtain ⟨⟨used, month, day⟩, present, year⟩ := (x.dated_iff t).mp hx
  obtain ⟨⟨used', month', day'⟩, present', year'⟩ := (y.dated_iff t).mp hy
  exact (x.sameKey_iff y).mpr ⟨used, used', BitVec.eq_of_toNat_eq (month.trans month'.symm),
    BitVec.eq_of_toNat_eq (day.trans day'.symm), present.trans present'.symm,
    .inr (BitVec.eq_of_toNat_eq (year.trans year'.symm))⟩

/-- Two slots that name a date for every year have one key. -/
theorem sameKey_of_undated {x y : SpecSlot} {t : DateTime} (hx : x.undated t = true) (hy : y.undated t = true) :
    x.sameKey y = true := by
  obtain ⟨⟨used, month, day⟩, absent⟩ := (x.undated_iff t).mp hx
  obtain ⟨⟨used', month', day'⟩, absent'⟩ := (y.undated_iff t).mp hy
  exact (x.sameKey_iff y).mpr ⟨used, used', BitVec.eq_of_toNat_eq (month.trans month'.symm),
    BitVec.eq_of_toNat_eq (day.trans day'.symm), absent.trans absent'.symm, .inl absent⟩

end SpecSlot

namespace ConfigSet

variable {c : ConfigSet} {t : DateTime}

/-- Case 1 of R62. -/
theorem dayTypeAt_of_dated (valid : c.firstFault = none) {i : Fin 16} (dated : c.specials[i].dated t = true) :
    c.dayTypeAt t = c.specials[i].dayType := by
  have found : c.specials.toList.find? (·.dated t) = some c.specials[i] :=
    find?_toList_eq_some dated fun _ h => specials_eq_of_sameKey valid (SpecSlot.sameKey_of_dated h dated)
  simp only [dayTypeAt, found]

/-- Case 2 of R62. -/
theorem dayTypeAt_of_undated (valid : c.firstFault = none) {i : Fin 16} (undated : c.specials[i].undated t = true)
    (none_dated : ∀ j : Fin 16, ¬ c.specials[j].dated t = true) : c.dayTypeAt t = c.specials[i].dayType := by
  have found : c.specials.toList.find? (·.undated t) = some c.specials[i] :=
    find?_toList_eq_some undated fun _ h => specials_eq_of_sameKey valid (SpecSlot.sameKey_of_undated h undated)
  have no_dated : c.specials.toList.find? (·.dated t) = none := find?_toList_eq_none none_dated
  simp only [dayTypeAt, no_dated, found]

theorem mapEntry_val (c : ConfigSet) (w : Fin 7) : c.mapEntry w.val = c.dayTypes[w] := by
  simp [mapEntry]

/-- Case 3 of R62. -/
theorem dayTypeAt_of_not_special (none_dated : ∀ j : Fin 16, ¬ c.specials[j].dated t = true)
    (none_undated : ∀ j : Fin 16, ¬ c.specials[j].undated t = true) {w : Fin 7} (weekday : dayOfWeek t = w.val) :
    c.dayTypeAt t = c.dayTypes[w] := by
  have no_dated : c.specials.toList.find? (·.dated t) = none := find?_toList_eq_none none_dated
  have no_undated : c.specials.toList.find? (·.undated t) = none := find?_toList_eq_none none_undated
  simp only [dayTypeAt, no_dated, no_undated, weekday, mapEntry_val]

end ConfigSet

/-! ### The tariff of a time -/

namespace SchedSlot

theorem reached_iff (x : SchedSlot) (dayType : Byte) (t : DateTime) :
    x.reached dayType t = true ↔
      x.used = 1 ∧ x.dayType = dayType ∧ x.hour.toNat * 60 + x.minute.toNat ≤ t.hour * 60 + t.minute := by
  simp only [reached, Bool.and_eq_true, beq_iff_eq, decide_eq_true_iff, and_assoc]
  rfl

/-- The hour and minute of an entry follow from its time in minutes, so two considered entries of one time have one key. -/
theorem sameKey_of_minutes_eq {x y : SchedSlot} {d : Byte} {t : DateTime} (hx : x.reached d t = true) (hy : y.reached d t = true)
    (x_minute : x.minute ≤ 59) (y_minute : y.minute ≤ 59) (same : x.minutes = y.minutes) : x.sameKey y = true := by
  obtain ⟨used, day, -⟩ := (x.reached_iff d t).mp hx
  obtain ⟨used', day', -⟩ := (y.reached_iff d t).mp hy
  unfold minutes at same
  have hour : x.hour = y.hour := by bv_omega
  have minute : x.minute = y.minute := by bv_omega
  exact (x.sameKey_iff y).mpr ⟨used, used', day.trans day'.symm, hour, minute⟩

end SchedSlot

theorem foldl_laterEntry_eq_argmax (l : List SchedSlot) : l.foldl laterEntry none = l.argmax SchedSlot.minutes := by
  have same : laterEntry = List.argAux fun x y : SchedSlot => y.minutes < x.minutes := by
    funext best x
    cases best <;> rfl
  rw [same, List.argmax]

namespace ConfigSet

variable {c : ConfigSet} {t : DateTime}

/-- The entries that R63 considers. -/
theorem mem_considered_iff (c : ConfigSet) (t : DateTime) (x : SchedSlot) :
    x ∈ c.schedule.toList.filter (·.reached (c.dayTypeAt t) t) ↔
      ∃ i : Fin 20, c.schedule[i] = x ∧ c.schedule[i].reached (c.dayTypeAt t) t = true := by
  rw [List.mem_filter, mem_toList_iff_exists]
  constructor
  · rintro ⟨⟨i, rfl⟩, reached⟩
    exact ⟨i, rfl, reached⟩
  · rintro ⟨i, rfl, reached⟩
    exact ⟨⟨i, rfl⟩, reached⟩

/-- The tariff of the latest considered entry, or the default tariff where there is none, taken into its range. -/
theorem tariffAt_eq (c : ConfigSet) (t : DateTime) :
    (c.tariffAt t).val =
      (((c.schedule.toList.filter (·.reached (c.dayTypeAt t) t)).argmax SchedSlot.minutes).elim
        c.defaultTariff SchedSlot.tariff).toNat % 4 := by
  rw [tariffAt, foldl_laterEntry_eq_argmax]
  cases (c.schedule.toList.filter (·.reached (c.dayTypeAt t) t)).argmax SchedSlot.minutes <;> rfl

/-- Two considered entries of one time are one slot (R68), so the latest is a single entry. -/
theorem argmax_considered (valid : c.firstFault = none) {i : Fin 20} (reached : c.schedule[i].reached (c.dayTypeAt t) t = true)
    (latest : ∀ j : Fin 20, c.schedule[j].reached (c.dayTypeAt t) t = true → c.schedule[j].minutes ≤ c.schedule[i].minutes) :
    (c.schedule.toList.filter (·.reached (c.dayTypeAt t) t)).argmax SchedSlot.minutes = some c.schedule[i] := by
  have considered := (c.mem_considered_iff t _).mpr ⟨i, rfl, reached⟩
  obtain ⟨x, best⟩ := Option.ne_none_iff_exists'.mp
    (mt (List.argmax_eq_none (f := SchedSlot.minutes)).mp (List.ne_nil_of_mem considered))
  obtain ⟨k, rfl, reached'⟩ := (c.mem_considered_iff t x).mp (List.argmax_mem best)
  have same := (latest k reached').antisymm (List.le_of_mem_argmax considered best)
  obtain ⟨-, minute, -⟩ := schedule_inRange valid ((SchedSlot.reached_iff _ _ _).mp reached).1
  obtain ⟨-, minute', -⟩ := schedule_inRange valid ((SchedSlot.reached_iff _ _ _).mp reached').1
  rw [best, schedule_eq_of_sameKey valid (SchedSlot.sameKey_of_minutes_eq reached' reached minute' minute same)]

theorem tariffAt_of_latest (valid : c.firstFault = none) {i : Fin 20} (reached : c.schedule[i].reached (c.dayTypeAt t) t = true)
    (latest : ∀ j : Fin 20, c.schedule[j].reached (c.dayTypeAt t) t = true → c.schedule[j].minutes ≤ c.schedule[i].minutes) :
    (c.tariffAt t).val = c.schedule[i].tariff.toNat := by
  obtain ⟨-, -, tariff⟩ := schedule_inRange valid ((SchedSlot.reached_iff _ _ _).mp reached).1
  rw [tariffAt_eq, argmax_considered valid reached latest]
  exact Nat.mod_eq_of_lt (Nat.lt_succ_of_le tariff)

theorem tariffAt_of_none_reached (valid : c.firstFault = none)
    (none_reached : ∀ j : Fin 20, ¬ c.schedule[j].reached (c.dayTypeAt t) t = true) :
    (c.tariffAt t).val = c.defaultTariff.toNat := by
  have none_considered : c.schedule.toList.filter (·.reached (c.dayTypeAt t) t) = [] :=
    List.eq_nil_iff_forall_not_mem.mpr fun x hx => by
      obtain ⟨i, -, reached⟩ := (c.mem_considered_iff t x).mp hx
      exact none_reached i reached
  obtain ⟨-, -, -, tariff, -, -⟩ := c.firstFault_eq_none_iff.mp valid
  rw [tariffAt_eq, none_considered]
  exact Nat.mod_eq_of_lt (Nat.lt_succ_of_le tariff)

end ConfigSet

/-- Settles O54: the three cases of R62 and the two of R63, where the keys of used slots (R68, R69) leave one slot to take. -/
theorem tariffLookup : Obligations.TariffLookup := by
  intro c t valid
  simp only [← SchedSlot.reached_iff]
  refine ⟨fun i named present year => ?_, fun i named absent others => ?_, fun others w weekday => ?_, fun i reached latest => ?_,
    ConfigSet.tariffAt_of_none_reached valid⟩
  · exact ConfigSet.dayTypeAt_of_dated valid ((SpecSlot.dated_iff _ t).mpr ⟨named, present, year⟩)
  · refine ConfigSet.dayTypeAt_of_undated valid ((SpecSlot.undated_iff _ t).mpr ⟨named, absent⟩) fun j dated => ?_
    obtain ⟨named, present, year⟩ := (SpecSlot.dated_iff _ t).mp dated
    exact others j named present year
  · refine ConfigSet.dayTypeAt_of_not_special (fun j dated => ?_) (fun j undated => ?_) weekday
    · obtain ⟨named, -, year⟩ := (SpecSlot.dated_iff _ t).mp dated
      exact (others j named).2 year
    · obtain ⟨named, absent⟩ := (SpecSlot.undated_iff _ t).mp undated
      exact absurd ((others j named).1.symm.trans absent) (by decide)
  · exact ConfigSet.tariffAt_of_latest valid reached latest

end Sys2Proof.Machine
end

section
/-! SUPPORT. The words of a record: where each field of Table 38 stands in its word (R99), which words an entry takes, and what the
check word makes of the sum of the halves (R100). -/

namespace Sys2Proof.Machine

/-! ### The fields of the words -/

/-- A field stands in a word: its bits are those from a start bit upward. -/
def HasField {n len : Nat} (w : BitVec n) (start : Nat) (field : BitVec len) : Prop := w.extractLsb' start len = field

namespace HasField

variable {m n len start : Nat} {hi : BitVec m} {lo : BitVec n} {field : BitVec len}

theorem low : HasField (hi ++ lo) 0 lo := BitVec.extractLsb'_append_eq_right

theorem high : HasField (hi ++ lo) n hi := BitVec.extractLsb'_append_eq_left

/-- A field of the upper part stands higher by the width of the lower one. -/
theorem above (h : HasField hi start field) : HasField (hi ++ lo) (start + n) field := by
  rw [HasField, BitVec.extractLsb'_append_eq_of_le (Nat.le_add_left n start), Nat.add_sub_cancel]
  exact h

theorem below (h : HasField lo start field) (fits : start + len ≤ n) : HasField (hi ++ lo) start field :=
  (BitVec.extractLsb'_append_eq_of_add_le fits).trans h

theorem toNat_eq {w : BitVec n} {k : Nat} (h : HasField w start (BitVec.ofNat len k)) (fits : k < 2 ^ len) :
    (w.extractLsb' start len).toNat = k := by
  rw [HasField] at h
  rw [h, BitVec.toNat_ofNat, Nat.mod_eq_of_lt fits]

theorem getLsbD_eq {w : BitVec n} {b : Bool} (h : HasField w start (bit b)) : w.getLsbD start = b :=
  calc w.getLsbD start
    _ = (w.extractLsb' start 1).getLsbD 0 := by simp
    _ = (bit b).getLsbD 0 := congrArg (·.getLsbD 0) h
    _ = b := by simp [bit]

end HasField

theorem IntervalFlags.bits_fields (f : IntervalFlags) :
    HasField f.bits 5 (bit f.short) ∧ HasField f.bits 4 (bit f.power) ∧ HasField f.bits 3 (bit f.timeset) ∧
    HasField f.bits 2 (bit f.forced) ∧ HasField f.bits 1 (bit f.config) ∧ HasField f.bits 0 (bit f.timeInv) :=
  ⟨HasField.high.above.above.above.above, HasField.low.above.above.above.above, HasField.low.above.above.above,
    HasField.low.above.above, HasField.low.above, HasField.low⟩

/-- The six flags stand in H0 from bit 22 upward. -/
theorem Record.h0_flag {r : Record} {i : Nat} {b : Bool} (h : HasField r.flags.bits i (bit b)) (lt : i < 6) :
    r.h0.getLsbD (i + 22) = b :=
  HasField.getLsbD_eq (h.below lt).above.above.above

theorem Record.h0_fields (r : Record) (entries : r.entries.length ≤ 6) :
    r.h0.getLsbD 31 = decide (r.kind = .gap) ∧ (r.h0.extractLsb' 28 3).toNat = r.entries.length ∧
    r.h0.getLsbD 27 = r.flags.short ∧ r.h0.getLsbD 26 = r.flags.power ∧ r.h0.getLsbD 25 = r.flags.timeset ∧
    r.h0.getLsbD 24 = r.flags.forced ∧ r.h0.getLsbD 23 = r.flags.config ∧ r.h0.getLsbD 22 = r.flags.timeInv ∧
    (r.h0.extractLsb' 20 2).toNat = r.tariff.val ∧ r.h0.extractLsb' 16 4 = 0 ∧ r.h0.extractLsb' 0 16 = r.sequence := by
  obtain ⟨short, power, timeset, forced, config, timeInv⟩ := r.flags.bits_fields
  exact ⟨HasField.getLsbD_eq HasField.high.above.above.above.above,
    HasField.toNat_eq HasField.low.above.above.above.above (Nat.lt_succ_of_le (entries.trans (by decide))),
    h0_flag short (by decide), h0_flag power (by decide), h0_flag timeset (by decide), h0_flag forced (by decide),
    h0_flag config (by decide), h0_flag timeInv (by decide),
    HasField.toNat_eq HasField.low.above.above r.tariff.isLt, HasField.low.above, HasField.low⟩

theorem Record.h1_fields (r : Record) (year : r.stamp.year < 128) (month : r.stamp.month < 16) (day : r.stamp.day < 32)
    (hour : r.stamp.hour < 32) (minute : r.stamp.minute < 64) :
    (r.h1.extractLsb' 25 7).toNat = r.stamp.year ∧ (r.h1.extractLsb' 21 4).toNat = r.stamp.month ∧
    (r.h1.extractLsb' 16 5).toNat = r.stamp.day ∧ (r.h1.extractLsb' 11 5).toNat = r.stamp.hour ∧
    (r.h1.extractLsb' 5 6).toNat = r.stamp.minute ∧ r.h1.extractLsb' 0 5 = 0 :=
  ⟨HasField.toNat_eq HasField.high.above.above.above.above year, HasField.toNat_eq HasField.low.above.above.above.above month,
    HasField.toNat_eq HasField.low.above.above.above day, HasField.toNat_eq HasField.low.above.above hour,
    HasField.toNat_eq HasField.low.above minute, HasField.low⟩

theorem Record.h2_fields (r : Record) (nominal : r.nominal < 64) :
    (r.h2.extractLsb' 26 6).toNat = r.nominal ∧ r.h2.extractLsb' 14 12 = r.covered ∧ r.h2.extractLsb' 2 12 = r.dropped ∧
    r.h2.extractLsb' 0 2 = 0 :=
  ⟨HasField.toNat_eq HasField.high.above.above nominal, HasField.low.above.above, HasField.low.above, HasField.low⟩

theorem Record.h3_fields (r : Record) :
    r.h3.extractLsb' 24 8 = r.rejected ∧ r.h3.extractLsb' 16 8 = r.gaps ∧ r.h3.extractLsb' 4 12 = r.lostBefore ∧
    r.h3.extractLsb' 0 4 = 0 :=
  ⟨HasField.high.above.above, HasField.low.above.above, HasField.low.above, HasField.low⟩

theorem Record.h4_fields (r : Record) : r.h4.extractLsb' 16 16 = r.missed ∧ r.h4.extractLsb' 0 16 = r.check :=
  ⟨HasField.high, HasField.low⟩

theorem RecordEntry.words_fields (e : RecordEntry) :
    ∃ e0 e1 e2, e.words = [e0, e1, e2] ∧
      (e0.extractLsb' 29 3).toNat = e.channel.val ∧ e0.getLsbD 28 = e.accOvf ∧ e0.getLsbD 27 = e.inSat ∧
      e0.getLsbD 26 = e.unpaired ∧ e0.extractLsb' 16 10 = 0 ∧ e0.extractLsb' 0 16 = e.count ∧
      e1 = e.value.extractLsb' 16 32 ∧ e2.extractLsb' 16 16 = e.value.extractLsb' 0 16 ∧ e2.extractLsb' 0 16 = 0 :=
  ⟨_, _, _, rfl, HasField.toNat_eq HasField.high.above.above.above.above (e.channel.isLt.trans (by decide)),
    HasField.getLsbD_eq HasField.low.above.above.above.above, HasField.getLsbD_eq HasField.low.above.above.above,
    HasField.getLsbD_eq HasField.low.above.above, HasField.low.above, HasField.low, rfl, HasField.high, HasField.low⟩

/-! ### The words of an entry -/

theorem take_drop_flatMap_words {entries : List RecordEntry} {i : Nat} {e : RecordEntry} (h : entries[i]? = some e) :
    ((entries.flatMap RecordEntry.words).drop (3 * i)).take 3 = e.words := by
  induction entries generalizing i with
  | nil => cases h
  | cons x xs ih =>
    cases i with
    | zero =>
      obtain rfl : x = e := Option.some.inj h
      exact List.take_left' rfl
    | succ i =>
      calc (((x :: xs).flatMap RecordEntry.words).drop (3 * i + 3)).take 3
        _ = ((xs.flatMap RecordEntry.words).drop (3 * i)).take 3 := by
          rw [Nat.add_comm, ← List.drop_drop, List.flatMap_cons, List.drop_left' (i := 3) rfl]
        _ = e.words := ih h

/-- The three words of an entry follow the header and the entries before it (R99). -/
theorem Record.take_drop_words {r : Record} {i : Nat} {e : RecordEntry} (h : r.entries[i]? = some e) :
    (r.words.drop (5 + 3 * i)).take 3 = e.words := by
  rw [← List.drop_drop, Record.words, List.drop_left' (i := 5) rfl]
  exact take_drop_flatMap_words h

/-! ### The sum of the halves -/

theorem halfSum_eq_sum (words : List Word) : halfSum words = (words.map fun w => upperHalf w + lowerHalf w).sum := by
  simp only [halfSum, List.sum_eq_foldl, List.foldl_map, BitVec.add_assoc]

theorem halfSum_append (xs ys : List Word) : halfSum (xs ++ ys) = halfSum xs + halfSum ys := by
  simp only [halfSum_eq_sum, List.map_append, List.sum_append]

theorem halfSum_cons (w : Word) (ws : List Word) : halfSum (w :: ws) = upperHalf w + lowerHalf w + halfSum ws := by
  simp only [halfSum_eq_sum, List.map_cons, List.sum_cons]

/-- The check word stands in a half of its own, the lower one of H4. -/
theorem Record.halfSum_words_with_check (r : Record) (c : Half) :
    halfSum { r with check := c }.words = halfSum { r with check := 0 }.words + c := by
  have h4_sum (x : Half) : halfSum [{ r with check := x }.h4] = r.missed + x := by
    obtain ⟨upper, lower⟩ := Record.h4_fields { r with check := x }
    rw [halfSum_cons, upperHalf, lowerHalf, upper, lower]
    exact BitVec.add_zero _
  have split_at_h4 (x : Half) : { r with check := x }.words =
      [r.h0, r.h1, r.h2, r.h3] ++ [{ r with check := x }.h4] ++ r.entries.flatMap RecordEntry.words := rfl
  simp only [split_at_h4, halfSum_append, h4_sum]
  ring

/-- R100: a record with its check word formed sums to 0. -/
theorem Record.halfSum_words_sealed (r : Record) : halfSum r.sealed.words = 0 :=
  calc halfSum r.sealed.words
    _ = halfSum ({ r with check := 0 } : Record).words + r.checkWord := r.halfSum_words_with_check r.checkWord
    _ = 0 := by rw [Record.checkWord]; ring

/-- Settles O35: R99 word by word, and R100 as the sum of the record with its check word formed. -/
theorem recordWords : Obligations.RecordWords := by
  intro r nominal year month day hour minute entries
  refine ⟨r.words_length, r.halfSum_words_sealed, ⟨r.h0, r.h1, r.h2, r.h3, r.h4, _, rfl, ?_⟩, fun i e found => ?_⟩
  · have header : _ ∧ _ ∧ _ ∧ _ ∧ _ :=
      ⟨r.h0_fields entries, r.h1_fields year month day hour minute, r.h2_fields nominal, r.h3_fields, r.h4_fields⟩
    simpa only [and_assoc] using header
  · rw [Record.take_drop_words found]
    exact e.words_fields

end Sys2Proof.Machine
end

section
/-! SUPPORT. The arithmetic of the calendar (R40 to R43, R46, R48, R54): each carry is one unit later in the count, each borrow is
undone by its carry, and the end boundary is the next multiple of the interval length. -/

namespace Sys2Proof.Machine

/-! ### Real times -/

theorem DateTime.valid_iff (t : DateTime) :
    t.valid = true ↔ t.year ≤ 99 ∧ 1 ≤ t.month ∧ t.month ≤ 12 ∧ 1 ≤ t.day ∧ t.day ≤ monthLength t.year t.month ∧ t.hour ≤ 23 ∧
      t.minute ≤ 59 ∧ t.second ≤ 59 := by
  simp [DateTime.valid, and_assoc]

theorem one_le_monthLength (year month : Nat) : 28 ≤ monthLength year month := by
  unfold monthLength
  split
  · split <;> decide
  · decide
  · decide
  · decide
  · decide
  · decide

theorem monthLength_december (year : Nat) : monthLength year 12 = 31 := rfl

/-- Table 23 is the sum of Table 22. -/
theorem daysBefore_succ (year : Nat) {month : Nat} (low : 1 ≤ month) (high : month < 12) :
    daysBefore year (month + 1) = daysBefore year month + monthLength year month := by
  interval_cases month <;> cases h : isLeap year <;> simp [daysBefore, monthLength, h]

theorem daysBefore_december (year : Nat) : daysBefore year 12 + 31 = 365 + if year % 4 = 0 then 1 else 0 := by
  by_cases h : year % 4 = 0 <;> simp [daysBefore, isLeap, h]

/-- No day of a year is after its last one. -/
theorem daysBefore_add_monthLength_le (year : Nat) {month : Nat} (low : 1 ≤ month) (high : month ≤ 12) :
    daysBefore year month + monthLength year month ≤ 365 + if year % 4 = 0 then 1 else 0 := by
  have december := daysBefore_december year
  have count : ∀ n, 1 ≤ 12 - n → daysBefore year (12 - n) ≤ daysBefore year 12 := by
    intro n hn
    induction n with
    | zero => exact le_rfl
    | succ n ih =>
      have step := daysBefore_succ year hn (by omega)
      rw [show 12 - (n + 1) + 1 = 12 - n by omega] at step
      have := ih (by omega)
      omega
  by_cases last : month = 12
  · rw [last, monthLength_december, december]
  · rw [← daysBefore_succ year low (by omega)]
    have := count (11 - month) (by omega)
    rw [show 12 - (11 - month) = month + 1 by omega] at this
    omega

/-- The last day of the calendar range (R40). -/
def DateTime.onLastDay (t : DateTime) : Prop := t.year = 99 ∧ t.month = 12 ∧ t.day = 31

/-! ### Carries -/

/-- A carry into the day leads to a real time at the same time of day. -/
theorem carryDay_valid {t : DateTime} (h : t.valid = true) : (carryDay t).valid = true := by
  rw [DateTime.valid_iff] at h
  obtain ⟨hy, hm, hm', hd, hd', hh, hn, hs⟩ := h
  rw [DateTime.valid_iff]
  unfold carryDay
  have := one_le_monthLength t.year (t.month + 1)
  split_ifs <;> simp only
  · omega
  · omega
  · exact ⟨by omega, by decide, by decide, by decide, by simp [monthLength], hh, hn, hs⟩
  · exact ⟨by omega, by decide, by decide, by decide, by decide, hh, hn, hs⟩

theorem carryDay_clock (t : DateTime) :
    (carryDay t).hour = t.hour ∧ (carryDay t).minute = t.minute ∧ (carryDay t).second = t.second := by
  unfold carryDay
  split_ifs <;> exact ⟨rfl, rfl, rfl⟩

/-- A carry into the day is one day later, but on the last day. -/
theorem dayCount_carryDay {t : DateTime} (h : t.valid = true) (hl : ¬ t.onLastDay) : dayCount (carryDay t) = dayCount t + 1 := by
  rw [DateTime.valid_iff] at h
  obtain ⟨hy, hm, hm', hd, hd', -⟩ := h
  unfold carryDay dayCount
  split_ifs with day month year
  · simp only
    omega
  · simp only [daysBefore_succ t.year hm month]
    omega
  · have hmonth : t.month = 12 := by omega
    rw [hmonth] at day hd' ⊢
    rw [monthLength_december] at day hd'
    have before := daysBefore_december t.year
    have first : daysBefore (t.year + 1) 1 = 0 := rfl
    split_ifs at before <;> simp only [first] <;> omega
  · have hmonth : t.month = 12 := by omega
    rw [hmonth, monthLength_december] at day hd'
    exact absurd ⟨by omega, hmonth, by omega⟩ hl

/-- From the last day the carry leads to the first one (R43). -/
theorem carryDay_of_last {t : DateTime} (hl : t.onLastDay) : carryDay t = { t with year := 0, month := 1, day := 1 } := by
  obtain ⟨hy, hm, hd⟩ := hl
  simp [carryDay, hy, hm, hd, monthLength_december]

theorem carryHour_valid {t : DateTime} (h : t.valid = true) : (carryHour t).valid = true := by
  have h' := t.valid_iff.mp h
  unfold carryHour
  split_ifs with hour
  · rw [DateTime.valid_iff]
    simp only
    omega
  · refine carryDay_valid (DateTime.valid_iff _ |>.mpr ?_)
    simp only
    omega

/-- A carry into the hour is one hour later, but at the end of the range. -/
theorem seconds_carryHour {t : DateTime} (h : t.valid = true) (hl : ¬ (t.onLastDay ∧ t.hour = 23)) :
    (carryHour t).seconds = t.seconds + 3600 := by
  have hour_le : t.hour ≤ 23 := (t.valid_iff.mp h).2.2.2.2.2.1
  unfold carryHour
  split_ifs with hour
  · simp only [DateTime.seconds, dayCount]
    omega
  · have h' : ({ t with hour := 0 } : DateTime).valid = true := by
      rw [DateTime.valid_iff] at h ⊢
      simp only
      omega
    have hl' : ¬ ({ t with hour := 0 } : DateTime).onLastDay := fun hd => hl ⟨hd, by omega⟩
    obtain ⟨hh, hn, hs⟩ := carryDay_clock { t with hour := 0 }
    rw [DateTime.seconds, dayCount_carryDay h' hl', hh, hn, hs]
    simp only [DateTime.seconds, dayCount]
    omega

/-- At the end of the range the carry into the hour leads to its beginning (R43). -/
theorem carryHour_of_last {t : DateTime} (hl : t.onLastDay) (hour : t.hour = 23) :
    carryHour t = { t with year := 0, month := 1, day := 1, hour := 0 } := by
  rw [carryHour, if_neg (by omega)]
  exact carryDay_of_last (t := { t with hour := 0 }) hl

/-! ### One second on -/

theorem nextSecond_valid {t : DateTime} (h : t.valid = true) : (nextSecond t).valid = true := by
  have h' := t.valid_iff.mp h
  unfold nextSecond carryMinute
  split_ifs with second minute
  · rw [DateTime.valid_iff]
    simp only
    omega
  · rw [DateTime.valid_iff]
    simp only at minute ⊢
    omega
  · refine carryHour_valid (DateTime.valid_iff _ |>.mpr ?_)
    simp only
    omega

/-- The last minute of an hour ends with a carry into the hour; before it the date and the hour stay. -/
theorem nextSecond_cases (t : DateTime) (h : t.valid = true) :
    (t.minute = 59 ∧ t.second = 59 ∧ nextSecond t = carryHour { t with minute := 0, second := 0 }) ∨
    (¬ (t.minute = 59 ∧ t.second = 59) ∧ (nextSecond t).seconds = t.seconds + 1 ∧ dayCount (nextSecond t) = dayCount t) := by
  obtain ⟨-, -, -, -, -, -, hn, hs⟩ := t.valid_iff.mp h
  unfold nextSecond carryMinute
  split_ifs with second minute
  · refine .inr ⟨by omega, ?_, rfl⟩
    simp only [DateTime.seconds, dayCount]
    omega
  · simp only at minute
    refine .inr ⟨by omega, ?_, rfl⟩
    simp only [DateTime.seconds, dayCount]
    omega
  · exact .inl ⟨by simp only at minute; omega, by omega, rfl⟩

theorem seconds_nextSecond {t : DateTime} (h : t.valid = true) (hl : t ≠ .last) : (nextSecond t).seconds = t.seconds + 1 := by
  rcases nextSecond_cases t h with ⟨hn, hs, he⟩ | ⟨-, he, -⟩
  · have h' : ({ t with minute := 0, second := 0 } : DateTime).valid = true := by
      rw [DateTime.valid_iff] at h ⊢
      simp only
      omega
    rw [he, seconds_carryHour h']
    · simp only [DateTime.seconds, dayCount]
      omega
    · rintro ⟨⟨hy, hm, hd⟩, hh⟩
      apply hl
      cases t
      simp_all [DateTime.last]
  · exact he

/-- The date changes exactly after 23:59:59. -/
theorem dayCount_nextSecond {t : DateTime} (h : t.valid = true) (hl : t ≠ .last) :
    dayCount (nextSecond t) = dayCount t + if t.hour = 23 ∧ t.minute = 59 ∧ t.second = 59 then 1 else 0 := by
  have hsec := seconds_nextSecond h hl
  have hv := (nextSecond t).valid_iff.mp (nextSecond_valid h)
  have ht := t.valid_iff.mp h
  rw [DateTime.seconds, DateTime.seconds] at hsec
  split_ifs <;> omega

/-! ### One second back -/

theorem carryDay_borrowDay {t : DateTime} (h : t.valid = true) : carryDay (borrowDay t) = t := by
  obtain ⟨year, month, day, hour, minute, second⟩ := t
  obtain ⟨hy, hm, hm', hd, hd', -⟩ := (DateTime.valid_iff _).mp h
  simp only at hy hm hm' hd hd'
  unfold borrowDay
  simp only
  split_ifs with day_pos month_pos year_pos
  · have inside : day - 1 < monthLength year month := by omega
    simp [carryDay, inside, Nat.sub_add_cancel hd]
  · have inside : month - 1 < 12 := by omega
    obtain rfl : day = 1 := by omega
    simp [carryDay, inside, Nat.sub_add_cancel hm]
  · have inside : year - 1 < 99 := by omega
    obtain rfl : day = 1 := by omega
    obtain rfl : month = 1 := by omega
    simp [carryDay, monthLength_december, inside, Nat.sub_add_cancel year_pos]
  · obtain rfl : day = 1 := by omega
    obtain rfl : month = 1 := by omega
    obtain rfl : year = 0 := by omega
    rfl

theorem borrowDay_valid {t : DateTime} (h : t.valid = true) : (borrowDay t).valid = true := by
  rw [DateTime.valid_iff] at h ⊢
  unfold borrowDay
  have := one_le_monthLength t.year (t.month - 1)
  have := monthLength_december (t.year - 1)
  have := monthLength_december 99
  split_ifs <;> simp only <;> omega

/-- A second back leads to a real time. -/
theorem prevSecond_valid {t : DateTime} (h : t.valid = true) : (prevSecond t).valid = true := by
  have h' := t.valid_iff.mp h
  unfold prevSecond borrowMinute borrowHour
  split_ifs with second minute hour
  · exact (DateTime.valid_iff _).mpr (by simp only; omega)
  · exact (DateTime.valid_iff _).mpr (by simp only; omega)
  · exact (DateTime.valid_iff _).mpr (by simp only; omega)
  · exact borrowDay_valid ((DateTime.valid_iff _).mpr (by simp only; omega))

theorem borrowDay_clock (t : DateTime) :
    (borrowDay t).hour = t.hour ∧ (borrowDay t).minute = t.minute ∧ (borrowDay t).second = t.second := by
  unfold borrowDay
  split_ifs <;> exact ⟨rfl, rfl, rfl⟩

/-- The borrow from the day leaves the time of day, so it may be set before or after. -/
theorem borrowDay_atMidnight (t : DateTime) :
    ({ borrowDay t with hour := 0, minute := 0, second := 0 } : DateTime) = borrowDay { t with hour := 0, minute := 0, second := 0 } := by
  unfold borrowDay
  split_ifs <;> rfl

/-- A second on undoes a second back (R54). -/
theorem nextSecond_prevSecond {t : DateTime} (h : t.valid = true) : nextSecond (prevSecond t) = t := by
  obtain ⟨year, month, day, hour, minute, second⟩ := t
  have h' := (DateTime.valid_iff _).mp h
  simp only at h'
  unfold prevSecond borrowMinute borrowHour
  simp only
  split_ifs with second_pos minute_pos hour_pos
  · have inside : second - 1 < 59 := by omega
    simp [nextSecond, inside, Nat.sub_add_cancel second_pos]
  · have inside : minute - 1 < 59 := by omega
    obtain rfl : second = 0 := by omega
    simp [nextSecond, carryMinute, inside, Nat.sub_add_cancel minute_pos]
  · have inside : hour - 1 < 23 := by omega
    obtain rfl : second = 0 := by omega
    obtain rfl : minute = 0 := by omega
    simp [nextSecond, carryMinute, carryHour, inside, Nat.sub_add_cancel hour_pos]
  · obtain rfl : second = 0 := by omega
    obtain rfl : minute = 0 := by omega
    obtain rfl : hour = 0 := by omega
    obtain ⟨hh, hn, hs⟩ := borrowDay_clock ⟨year, month, day, 23, 59, 59⟩
    have carried : nextSecond (borrowDay ⟨year, month, day, 23, 59, 59⟩) = carryDay (borrowDay ⟨year, month, day, 0, 0, 0⟩) := by
      simp only [nextSecond, carryMinute, carryHour, hh, hn, hs, Nat.lt_irrefl, if_false]
      exact congrArg carryDay (borrowDay_atMidnight ⟨year, month, day, 23, 59, 59⟩)
    rw [carried, carryDay_borrowDay h]

theorem seconds_prevSecond {t : DateTime} (h : t.valid = true) (ho : t ≠ .origin) : (prevSecond t).seconds + 1 = t.seconds := by
  have back := nextSecond_prevSecond h
  have hl : prevSecond t ≠ .last := by
    intro hl
    rw [hl] at back
    exact ho back.symm
  rw [← seconds_nextSecond (prevSecond_valid h) hl, back]

/-! ### Several seconds (R54) -/

theorem seconds_last : DateTime.last.seconds = 3155759999 := by decide

/-- A property that one second keeps is kept by any number of them. -/
theorem iterate_keeps {P : DateTime → Prop} {step : DateTime → DateTime} (h : ∀ t, P t → P (step t)) :
    ∀ (n : Nat) {t : DateTime}, P t → P (iterate step n t)
  | 0, _, ht => ht
  | n + 1, t, ht => iterate_keeps h n (h t ht)

/-- Seconds on that stay within the range are so many seconds later. -/
theorem seconds_iterate_nextSecond : ∀ (n : Nat) {t : DateTime}, t.valid = true → t.seconds + n ≤ 3155759999 →
    (iterate nextSecond n t).seconds = t.seconds + n
  | 0, _, _, _ => rfl
  | n + 1, t, h, hn => by
    have hl : t ≠ .last := by
      intro hl
      rw [hl, seconds_last] at hn
      omega
    have hsec := seconds_nextSecond h hl
    rw [iterate, seconds_iterate_nextSecond n (nextSecond_valid h) (by omega), hsec]
    omega

/-- Seconds back that stay within the range are so many seconds earlier. -/
theorem seconds_iterate_prevSecond : ∀ (n : Nat) {t : DateTime}, t.valid = true → n ≤ t.seconds →
    (iterate prevSecond n t).seconds + n = t.seconds
  | 0, _, _, _ => rfl
  | n + 1, t, h, hn => by
    have ho : t ≠ .origin := by
      intro ho
      rw [ho, show DateTime.origin.seconds = 0 from rfl] at hn
      omega
    have hsec := seconds_prevSecond h ho
    have := seconds_iterate_prevSecond n (prevSecond_valid h) (by omega)
    rw [iterate]
    omega

theorem shiftSeconds_valid {t : DateTime} (h : t.valid = true) (n : Int) : (shiftSeconds t n).valid = true := by
  unfold shiftSeconds
  split
  · exact iterate_keeps (P := fun t => t.valid = true) (fun _ => nextSecond_valid) _ h
  · exact iterate_keeps (P := fun t => t.valid = true) (fun _ => prevSecond_valid) _ h

/-- A time moved within the range lies so many seconds away (R54). -/
theorem seconds_shiftSeconds {t : DateTime} (h : t.valid = true) {n : Int} (low : 0 ≤ t.seconds + n)
    (high : t.seconds + n ≤ 3155759999) : ((shiftSeconds t n).seconds : Int) = t.seconds + n := by
  unfold shiftSeconds
  split
  · have := seconds_iterate_nextSecond n.toNat h (by omega)
    omega
  · have := seconds_iterate_prevSecond (-n).toNat h (by omega)
    omega

/-- No real time is after the last one. -/
theorem seconds_le_last {t : DateTime} (h : t.valid = true) : t.seconds ≤ 3155759999 := by
  obtain ⟨hy, hm, hm', hd, hd', hh, hn, hs⟩ := t.valid_iff.mp h
  have before := daysBefore_add_monthLength_le t.year hm hm'
  rw [DateTime.seconds, dayCount]
  split_ifs at before <;> omega

/-- Settles O18: a second before the last one is one carry at most, the last one is the wrap (R43). -/
theorem timeAdvancesByOneSecond : Obligations.TimeAdvancesByOneSecond := by
  intro t h
  refine ⟨nextSecond_valid h, fun hl => ⟨seconds_nextSecond h hl, ?_⟩, ?_⟩
  · rw [dayOfWeek, dayCount_nextSecond h hl, dayOfWeek]
    split_ifs <;> omega
  · rintro rfl
    decide

/-! ### The end boundary -/

/-- The minutes since 2000-01-01 00:00. -/
def DateTime.minutes (t : DateTime) : Nat := (dayCount t * 24 + t.hour) * 60 + t.minute

theorem DateTime.seconds_eq (t : DateTime) : t.seconds = t.minutes * 60 + t.second := rfl

/-- The seven interval lengths divide the hour (Table 48). -/
theorem length_dvd_hour {length : Nat} (h : length ∈ [1, 2, 5, 10, 15, 30, 60]) : 0 < length ∧ length ∣ 60 := by
  simp only [List.mem_cons, List.not_mem_nil, or_false] at h
  rcases h with rfl | rfl | rfl | rfl | rfl | rfl | rfl <;> decide

/-- An instant is aligned when its minutes since 2000 are a multiple of the length. -/
theorem minutes_mod {length : Nat} (h : length ∣ 60) (t : DateTime) : t.minutes % length = t.minute % length := by
  obtain ⟨k, hk⟩ := h
  rw [DateTime.minutes, hk, Nat.mul_left_comm, Nat.mul_add_mod]

/-- The full hour after an instant, as an instant to compare with: the wrap stands for the instant after the range (R48). -/
theorem endSeconds_carryHour {t : DateTime} (h : t.valid = true) (onHour : t.minute = 0 ∧ t.second = 0) :
    endSeconds (carryHour t) = t.seconds + 3600 := by
  by_cases hl : t.onLastDay ∧ t.hour = 23
  · obtain ⟨year, month, day, hour, minute, second⟩ := t
    obtain ⟨⟨hy, hm, hd⟩, hh⟩ := hl
    obtain ⟨hn, hs⟩ := onHour
    simp only at hy hm hd hh hn hs
    subst hy hm hd hh hn hs
    decide
  · have later := seconds_carryHour h hl
    have ho : carryHour t ≠ .origin := by
      intro ho
      rw [ho, show DateTime.origin.seconds = 0 from rfl] at later
      omega
    rw [endSeconds, if_neg ho, later]

theorem carryHour_clock (t : DateTime) : (carryHour t).minute = t.minute ∧ (carryHour t).second = t.second := by
  unfold carryHour
  split
  · exact ⟨rfl, rfl⟩
  · exact (carryDay_clock _).2

/-- R46: the end boundary is a real time on a full minute, and that minute is the next multiple of the length. -/
theorem endBoundaryOf_spec {t : DateTime} (h : t.valid = true) {length : Nat} (pos : 0 < length) (hour : length ∣ 60) :
    (endBoundaryOf length t).valid = true ∧ (endBoundaryOf length t).second = 0 ∧ (endBoundaryOf length t).minute % length = 0 ∧
    endSeconds (endBoundaryOf length t) = ((t.minutes / length + 1) * length) * 60 := by
  have ht := t.valid_iff.mp h
  obtain ⟨k, hk⟩ := hour
  have next : (t.minutes / length + 1) * length = (dayCount t * 24 + t.hour) * 60 + (t.minute / length + 1) * length := by
    rw [DateTime.minutes, hk, Nat.mul_left_comm, Nat.mul_add_div pos]
    ring
  have next_pos : 0 < (t.minute / length + 1) * length := Nat.mul_pos (Nat.succ_pos _) pos
  have next_le : (t.minute / length + 1) * length ≤ 60 := by
    rw [hk, Nat.mul_comm length k]
    refine Nat.mul_le_mul_right _ (Nat.div_lt_of_lt_mul ?_)
    omega
  rw [next]
  unfold endBoundaryOf
  dsimp only
  split_ifs with inside
  · refine ⟨(DateTime.valid_iff _).mpr (by simp only; omega), rfl, Nat.mul_mod_left _ _, ?_⟩
    rw [endSeconds, if_neg]
    · simp only [DateTime.seconds, dayCount]
      omega
    · intro ho
      have : (t.minute / length + 1) * length = 0 := congrArg DateTime.minute ho
      omega
  · have hv : ({ t with minute := 0, second := 0 } : DateTime).valid = true := (DateTime.valid_iff _).mpr (by simp only; omega)
    obtain ⟨hn, hs⟩ := carryHour_clock { t with minute := 0, second := 0 }
    refine ⟨carryHour_valid hv, hs, by rw [hn]; exact Nat.zero_mod _, ?_⟩
    rw [endSeconds_carryHour hv ⟨rfl, rfl⟩]
    simp only [DateTime.seconds, dayCount]
    omega

/-- Settles O19: the end boundary stands on the next multiple of the length, in minutes since 2000, and every later aligned instant
stands on a multiple too. -/
theorem endBoundaryIsTheNextAlignedInstant : Obligations.EndBoundaryIsTheNextAlignedInstant := by
  intro t length h hlength
  obtain ⟨pos, hour⟩ := length_dvd_hour hlength
  obtain ⟨hvalid, hsecond, hminute, hend⟩ := endBoundaryOf_spec h pos hour
  have second_le : t.second ≤ 59 := (t.valid_iff.mp h).2.2.2.2.2.2.2
  refine ⟨hvalid, hsecond, hminute, ?_, fun u _ hu0 hu hlt => ?_⟩
  · rw [hend, DateTime.seconds_eq]
    have := Nat.lt_div_mul_add (a := t.minutes) pos
    rw [Nat.add_mul]
    omega
  · obtain ⟨j, hj⟩ := Nat.dvd_of_mod_eq_zero ((minutes_mod hour u).trans hu)
    rw [DateTime.seconds_eq, DateTime.seconds_eq, hu0] at hlt
    have later : t.minutes < j * length := by
      rw [Nat.mul_comm, ← hj]
      omega
    have : (t.minutes / length + 1) * length ≤ j * length :=
      Nat.mul_le_mul_right _ ((Nat.div_lt_iff_lt_mul pos).mpr later)
    rw [hend, DateTime.seconds_eq, hu0, hj, Nat.mul_comm length j]
    omega

end Sys2Proof.Machine
end

section
/-! SUPPORT. What the invariants of the calendar (R42), the configuration (R132) and the record queue (R97, R107) speak of, as a
view of the state. `KeptMove` lists the changes that a step makes to it, one for each rule that allows one. -/

namespace Sys2Proof.Machine

/-- The calendar, the configuration store, the record queue and the record held during a close. -/
structure KeptView where
  cal : Calendar
  cfg : ConfigStore
  queue : RecordQueue
  built : Option Record

/-- The view of a state. -/
def State.keptView (s : State) : KeptView := ⟨s.cal, s.cfg, s.queue, s.ic.built⟩

/-- The changes of the view. -/
inductive KeptMove : KeptView → KeptView → Prop where
  /-- A second event (R39). -/
  | second (v : KeptView) : KeptMove v { v with cal := v.cal.second }
  /-- A phase below 32768 (R39, R45). -/
  | phase (v : KeptView) {p : Nat} (below : p < Config.phasePeriods) : KeptMove v { v with cal := { v.cal with phase := p } }
  /-- TIME_LOAD with a real time (R51, R52). -/
  | load (v : KeptView) {t : DateTime} (real : t.valid = true) :
      KeptMove v { v with cal := { v.cal.at t with phase := 0, valid := true } }
  /-- TIME_TRIM (R54). -/
  | trim (v : KeptView) (n : Int) : KeptMove v { v with cal := v.cal.at (shiftSeconds v.cal.time n) }
  /-- The apply of a set that passed (R139). -/
  | apply {v : KeptView} (passed : v.cfg.commitPending = true ∨ v.cfg.staged.passes = true) :
      KeptMove v { v with cfg := { v.cfg with active := v.cfg.staged, commitPending := false } }
  /-- The outcome of a validation (R136). -/
  | fault (v : KeptView) (f : FaultTable × Nat) : KeptMove v { v with cfg := { v.cfg with fault := f } }
  /-- A set that passes becomes pending and frozen (R137). -/
  | freeze {v : KeptView} (passed : v.cfg.staged.passes = true) :
      KeptMove v { v with cfg := { v.cfg with commitPending := true } }
  /-- A pending commit ends (R140, R142). -/
  | thaw (v : KeptView) : KeptMove v { v with cfg := { v.cfg with commitPending := false } }
  /-- The staged set is written while it is not frozen (R133, R134, R141). -/
  | stage {v : KeptView} (c : ConfigSet) (unfrozen : v.cfg.commitPending = false) :
      KeptMove v { v with cfg := { v.cfg with staged := c } }
  /-- A record of at most six entries is offered: the one held, or one just made (R86, R152). -/
  | offer {v : KeptView} (r : Record) (short : v.built = some r ∨ r.entries.length ≤ 6) :
      KeptMove v { v with queue := v.queue.offer r.words }
  /-- RECORD_OPEN on a queue with a record (R107, R108). -/
  | read {v : KeptView} (some_record : ¬ (v.queue.hold = false ∧ v.queue.count = 0)) :
      KeptMove v { v with queue := v.queue.startReading }
  /-- RECORD_RELEASE (R112). -/
  | release (v : KeptView) : KeptMove v { v with queue := v.queue.dropHead.endHold }
  /-- A hold ends (R115). -/
  | endHold (v : KeptView) : KeptMove v { v with queue := v.queue.endHold }
  /-- QUEUE_FLUSH (R113). -/
  | flush (v : KeptView) : KeptMove v { v with queue := v.queue.flushed }
  /-- A word is delivered (R109, R110). -/
  | deliver {v : KeptView} (reading : v.queue.readStatus = .reading) : KeptMove v { v with queue := v.queue.deliver }
  /-- A byte is read after the verdict, or with nothing to read (R111). -/
  | pastEnd (v : KeptView) : KeptMove v { v with queue := v.queue.readPastEnd }
  /-- The policy and the threshold are written (R106). -/
  | rules (v : KeptView) (overwrite : Bool) (threshold : Byte) :
      KeptMove v { v with queue := { v.queue with overwrite := overwrite, threshold := threshold } }
  /-- A word of the memory is altered (R98). -/
  | alter (v : KeptView) (a : Nat) (w : Word) : KeptMove v { v with queue := { v.queue with mem := v.queue.mem.write a w } }
  /-- BUILD (R83). -/
  | build (v : KeptView) {r : Record} (short : r.entries.length ≤ 6) : KeptMove v { v with built := some r }
  /-- The completion of a close (R87). -/
  | complete (v : KeptView) : KeptMove v { v with built := none }
  /-- A cold start, or a loss of both supplies (R145). -/
  | cold (v : KeptView) : KeptMove v State.reset.keptView

/-! ### The invariants on the view -/

/-- R42 and R39 on a calendar. -/
def Calendar.inv (c : Calendar) : Prop := c.time.valid = true ∧ c.dayOfWeek = Machine.dayOfWeek c.time ∧ c.phase < Config.phasePeriods

/-- R132 and R137 on a configuration store. -/
def ConfigStore.inv (c : ConfigStore) : Prop := c.active.passes = true ∧ (c.commitPending = true → c.staged.passes = true)

/-- R97, R98 and Table 39 on a view. -/
def KeptView.queueInv (v : KeptView) : Prop :=
  v.queue.inv ∧ v.queue.holdInv ∧ ∀ r, v.built = some r → r.entries.length ≤ 6

theorem phasePeriods_pos : 0 < Config.phasePeriods := by decide

/-- A time with its weekday keeps the calendar real. -/
theorem Calendar.inv_at {c : Calendar} (h : c.inv) {t : DateTime} (real : t.valid = true) : (c.at t).inv := ⟨real, rfl, h.2.2⟩

/-- R42: every move keeps the calendar real. -/
theorem KeptMove.keeps_calendar {v w : KeptView} (m : KeptMove v w) (h : v.cal.inv) : w.cal.inv := by
  have ⟨real, weekday, below⟩ := h
  cases m with
  | second => exact ⟨nextSecond_valid real, rfl, phasePeriods_pos⟩
  | phase below => exact ⟨real, weekday, below⟩
  | load real => exact ⟨real, rfl, phasePeriods_pos⟩
  | trim n => exact Calendar.inv_at h (shiftSeconds_valid real n)
  | cold => exact ⟨rfl, rfl, phasePeriods_pos⟩
  | apply | fault | freeze | thaw | stage | offer | read | release | endHold | flush | deliver | pastEnd | rules | alter | build
  | complete => exact h

/-- R132: every move keeps an active set that passes, and a staged set that passes while it is frozen. -/
theorem KeptMove.keeps_config {v w : KeptView} (m : KeptMove v w) (h : v.cfg.inv) : w.cfg.inv := by
  have ⟨active, frozen⟩ := h
  cases m with
  | apply passed => exact ⟨passed.elim frozen id, nofun⟩
  | freeze passed => exact ⟨active, fun _ => passed⟩
  | thaw => exact ⟨active, nofun⟩
  | stage c unfrozen => exact ⟨active, fun pending => absurd (unfrozen.symm.trans pending) (by decide)⟩
  | cold => exact ⟨by decide, nofun⟩
  | second | phase | load | trim | fault | offer | read | release | endHold | flush | deliver | pastEnd | rules | alter | build
  | complete => exact h

/-- A record with at most six entries has 5 to 23 words (R98, R99). -/
theorem Record.words_length_bounds {r : Record} (short : r.entries.length ≤ 6) : 5 ≤ r.words.length ∧ r.words.length ≤ 23 := by
  rw [Record.words_length]
  omega

/-- A reading begins on a record (R107). -/
theorem RecordQueue.startReading_holdInv {q : RecordQueue} (hi : q.inv) (hh : q.holdInv)
    (some_record : ¬ (q.hold = false ∧ q.count = 0)) : q.startReading.holdInv := by
  refine ⟨by simp [RecordQueue.startReading], fun _ => ?_⟩
  show q.lens ≠ []
  cases held : q.hold with
  | true => exact hh.2 held
  | false =>
    intro hl
    exact some_record ⟨held, by rw [hi.1, hl]; rfl⟩

/-- A word delivered leaves a reading or a verdict, both with a hold (Table 39). -/
theorem RecordQueue.deliver_holdInv {q : RecordQueue} (hh : q.holdInv) (reading : q.readStatus = .reading) : q.deliver.holdInv := by
  have held : q.hold = true := hh.1.mpr (by simp [reading])
  refine ⟨iff_of_true held ?_, hh.2⟩
  simp only [RecordQueue.deliver, reading]
  split_ifs <;> decide

theorem RecordQueue.readPastEnd_holdInv {q : RecordQueue} (hh : q.holdInv) : q.readPastEnd.holdInv := by
  unfold RecordQueue.readPastEnd
  split
  · rename_i verdict
    exact ⟨iff_of_true (hh.1.mpr (by simp [verdict])) (by simp), hh.2⟩
  · rename_i verdict
    exact ⟨iff_of_true (hh.1.mpr (by simp [verdict])) (by simp), hh.2⟩
  · exact hh

/-- Read-out and the end of a hold change none of the values that agree with the lengths. -/
theorem RecordQueue.deliver_inv {q : RecordQueue} (h : q.inv) : q.deliver.inv := by
  unfold RecordQueue.inv at h ⊢
  exact h

theorem RecordQueue.endHold_inv {q : RecordQueue} (h : q.inv) : q.endHold.inv := by
  unfold RecordQueue.inv at h ⊢
  exact h

theorem RecordQueue.startReading_inv {q : RecordQueue} (h : q.inv) : q.startReading.inv := by
  unfold RecordQueue.inv at h ⊢
  exact h

theorem RecordQueue.readPastEnd_inv {q : RecordQueue} (h : q.inv) : q.readPastEnd.inv := by
  unfold RecordQueue.readPastEnd
  split <;> exact h

theorem RecordQueue.flushed_inv (q : RecordQueue) : q.flushed.inv := by simp [RecordQueue.inv, RecordQueue.flushed]

theorem RecordQueue.flushed_holdInv (q : RecordQueue) : q.flushed.holdInv := by
  simp [RecordQueue.holdInv, RecordQueue.flushed, RecordQueue.endHold]

theorem RecordQueue.cold_inv : RecordQueue.cold.inv := by simp [RecordQueue.inv, RecordQueue.cold]

theorem RecordQueue.cold_holdInv : RecordQueue.cold.holdInv := by simp [RecordQueue.holdInv, RecordQueue.cold]

/-- R97, Table 39, R98: every move keeps the queue's values in agreement, a hold on a record, and a short record in a close. -/
theorem KeptMove.keeps_queue {v w : KeptView} (m : KeptMove v w) (h : v.queueInv) : w.queueInv := by
  have ⟨values, hold, short⟩ := h
  cases m with
  | offer r held =>
    obtain ⟨least, most⟩ := Record.words_length_bounds (held.elim (short r) id)
    exact ⟨RecordQueue.offer_inv values least most, RecordQueue.offer_holdInv hold _, short⟩
  | read some_record => exact ⟨RecordQueue.startReading_inv values, RecordQueue.startReading_holdInv values hold some_record, short⟩
  | release => exact ⟨RecordQueue.endHold_inv (RecordQueue.dropHead_inv values), RecordQueue.endHold_holdInv _, short⟩
  | endHold => exact ⟨RecordQueue.endHold_inv values, RecordQueue.endHold_holdInv _, short⟩
  | flush => exact ⟨v.queue.flushed_inv, v.queue.flushed_holdInv, short⟩
  | deliver reading => exact ⟨RecordQueue.deliver_inv values, RecordQueue.deliver_holdInv hold reading, short⟩
  | pastEnd => exact ⟨RecordQueue.readPastEnd_inv values, RecordQueue.readPastEnd_holdInv hold, short⟩
  | rules | alter => exact ⟨values, hold, short⟩
  | build few => exact ⟨values, hold, fun _ he => Option.some.inj he ▸ few⟩
  | complete => exact ⟨values, hold, fun _ he => absurd he.symm (Option.some_ne_none _)⟩
  | cold => exact ⟨RecordQueue.cold_inv, RecordQueue.cold_holdInv, fun _ he => absurd he.symm (Option.some_ne_none _)⟩
  | second | phase | load | trim | apply | fault | freeze | thaw | stage => exact h

/-- R97: every move keeps the record memory in its canonical form. -/
theorem KeptMove.keeps_memory {v w : KeptView} (m : KeptMove v w) (h : v.queue.mem.wf = true) : w.queue.mem.wf = true := by
  cases m with
  | offer r => exact RecordQueue.offer_wf h r.words
  | release => exact (congrArg RecordMemory.wf v.queue.dropHead_fields.2.2.1).trans h
  | pastEnd =>
    show v.queue.readPastEnd.mem.wf = true
    unfold RecordQueue.readPastEnd
    split <;> exact h
  | alter a w => exact RecordMemory.write_wf h a w
  | cold => exact reset_memory_wf
  | second | phase | load | trim | apply | fault | freeze | thaw | stage | read | endHold | flush | deliver | rules | build
  | complete => exact h

end Sys2Proof.Machine
end

section
/-! SUPPORT. Every step is a sequence of the moves of `KeptMove`: first what leaves the view as it is, then each shared operation
and each command in the model's order. -/

namespace Sys2Proof.Machine

/-- The view of `u` is that of `s` after any number of moves. -/
def State.evolvesTo (s u : State) : Prop := Relation.ReflTransGen KeptMove s.keptView u.keptView

theorem State.evolvesTo.trans {s u w : State} (h : s.evolvesTo u) (h' : u.evolvesTo w) : s.evolvesTo w :=
  Relation.ReflTransGen.trans h h'

theorem State.evolvesTo_of_eq {s u : State} (h : u.keptView = s.keptView) : s.evolvesTo u := by
  rw [State.evolvesTo, h]

theorem State.evolvesTo_of_move {s u : State} {w : KeptView} (m : KeptMove s.keptView w) (h : u.keptView = w) : s.evolvesTo u :=
  Relation.ReflTransGen.single (by rwa [h])

/-- A change outside the view may come before. -/
theorem State.evolvesTo.after_eq {s u w : State} (h : u.evolvesTo w) (hu : u.keptView = s.keptView) : s.evolvesTo w :=
  (State.evolvesTo_of_eq hu).trans h

/-- A change outside the view may follow. -/
theorem State.evolvesTo.then_eq {s u w : State} (h : s.evolvesTo u) (hw : w.keptView = u.keptView) : s.evolvesTo w :=
  h.trans (State.evolvesTo_of_eq hw)

/-- A step that takes place under a condition alone (log 1). -/
theorem State.evolvesTo_ite {s u : State} {p : Prop} [Decidable p] (h : p → s.evolvesTo u) : s.evolvesTo (if p then u else s) := by
  split
  · rename_i hp
    exact h hp
  · exact State.evolvesTo_of_eq rfl

/-- What every move keeps is kept along moves. -/
theorem State.evolvesTo.keeps {s u : State} {P : KeptView → Prop} (h : s.evolvesTo u)
    (hP : ∀ v w, KeptMove v w → P v → P w) (hs : P s.keptView) : P u.keptView := by
  have hall : ∀ w, Relation.ReflTransGen KeptMove s.keptView w → P w := fun w hw => by
    induction hw with
    | refl => exact hs
    | tail _ m ih => exact hP _ _ m ih
  exact hall _ h

/-! ### What leaves the view as it is -/

theorem State.linkEdge_keptView (s : State) (lfs lda : Bool) : (s.linkEdge lfs lda).keptView = s.keptView := by
  unfold State.linkEdge State.beginFrame
  (repeat' split) <;> simp [State.keptView]

theorem State.intake_keptView (s : State) (host : Bool) (n : Nat) (value : BitVec 24) (c : Cause) :
    (s.intake host n value c).keptView = s.keptView := by simp [State.keptView]

theorem State.completeAccumulation_keptView (s : State) (x : Sample) : (s.completeAccumulation x).keptView = s.keptView := by
  simp [State.completeAccumulation, State.keptView]

theorem State.discardSamples_keptView (s : State) : s.discardSamples.keptView = s.keptView := by simp [State.keptView]

theorem State.drainCheck_keptView (s : State) : s.drainCheck.keptView = s.keptView := by simp [State.keptView]

theorem State.creditRecord_keptView (s : State) (r : Record) : (s.creditRecord r).keptView = s.keptView := by simp [State.keptView]

theorem State.secondCounted_keptView (s : State) : s.secondCounted.keptView = { s.keptView with cal := s.cal.second } := by
  unfold State.secondCounted State.openBank
  cases s.openTag <;> rfl

theorem State.reportAbandoned_keptView (s : State) : s.reportAbandoned.keptView = s.keptView := by
  unfold State.reportAbandoned
  split <;> rfl

/-! ### Openings, closes and records -/

/-- An opening applies the staged set at most: one that was pending, or the one that CONFIG_COMMIT NOW has validated (R78). -/
theorem State.opening_evolves (s : State) (k : Trigger) (t : DateTime) (v : Bool) (tag : Tag)
    (passed : k = .commitNow → s.cfg.commitPending = true ∨ s.cfg.staged.passes = true) : s.evolvesTo (s.opening k t v tag) := by
  have view : (s.opening k t v tag).keptView = { s.keptView with
      cfg := if s.applies k then { s.cfg with active := s.cfg.staged, commitPending := false } else s.cfg } := by
    rw [State.opening_eq]
    cases tag <;> rfl
  split at view
  · rename_i applied
    exact State.evolvesTo_of_move (.apply (((s.applies_iff k).mp applied).elim .inl passed)) view
  · exact State.evolvesTo_of_eq view

theorem State.triggerClose_evolves (s : State) (k : Trigger) (t : DateTime) (v : Bool)
    (passed : k = .commitNow → s.cfg.commitPending = true ∨ s.cfg.staged.passes = true) : s.evolvesTo (s.triggerClose k t v) := by
  refine State.evolvesTo.then_eq (State.evolvesTo.after_eq (State.opening_evolves _ k t v _ ?_) ?_) (State.drainCheck_keptView _)
  · simpa using passed
  · simp [State.keptView]

theorem State.missInterval_evolves (s : State) (t : DateTime) (v : Bool) : s.evolvesTo (s.missInterval t v) :=
  (State.opening_evolves _ _ _ _ _ (absurd · (by decide))).after_eq rfl

theorem State.actOnBoundary_evolves (s : State) (t : DateTime) (v : Bool) (supply : SupplyState) (found : BackupBoundary) :
    s.evolvesTo (s.actOnBoundary t v supply found) := by
  unfold State.actOnBoundary
  split
  · exact s.missInterval_evolves t v
  · exact (State.triggerClose_evolves _ _ _ _ (absurd · (by decide))).after_eq rfl

theorem State.boundary_evolves (s : State) (t : DateTime) (v : Bool) : s.evolvesTo (s.boundary t v) := by
  unfold State.boundary
  split
  · exact State.evolvesTo_of_eq rfl
  · exact s.actOnBoundary_evolves _ _ _ _

theorem State.secondEvent_evolves (s : State) : s.evolvesTo s.secondEvent := by
  have counted : s.evolvesTo s.secondCounted := State.evolvesTo_of_move (.second _) s.secondCounted_keptView
  rw [State.secondEvent_eq]
  split
  · exact counted.trans (s.secondCounted.boundary_evolves _ _)
  · exact counted

theorem State.offerRecord_evolves (s : State) (r : Record) (short : s.ic.built = some r ∨ r.entries.length ≤ 6) :
    s.evolvesTo (s.offerRecord r) := by
  refine State.evolvesTo_of_move (.offer r short) ?_
  rw [State.offerRecord_eq]
  rfl

theorem State.buildDueGap_evolves (s : State) : s.evolvesTo s.buildDueGap := by
  refine State.evolvesTo_ite fun _ => ?_
  unfold State.buildGap
  split
  · exact State.evolvesTo_of_eq rfl
  · exact (State.offerRecord_evolves _ _ (.inr (by exact Nat.zero_le 6))).after_eq rfl

theorem State.releaseDeferred_evolves (s : State) : s.evolvesTo s.releaseDeferred := by
  unfold State.releaseDeferred
  split
  · exact State.evolvesTo_of_eq rfl
  · exact (State.actOnBoundary_evolves _ _ _ _ _).after_eq rfl

theorem State.completeClose_evolves (s : State) : s.evolvesTo s.completeClose := by
  refine State.evolvesTo.trans (State.evolvesTo.trans (State.evolvesTo_of_move (.complete _) ?_) (State.buildDueGap_evolves _))
    (State.releaseDeferred_evolves _)
  simp [State.keptView]

theorem State.buildStage_evolves (s : State) : s.evolvesTo s.buildStage :=
  State.evolvesTo_of_move (.build _ (Bank.recordEntries_length _)) rfl

theorem State.creditStage_evolves (s : State) : s.evolvesTo s.creditStage := by
  refine State.evolvesTo_of_eq ?_
  unfold State.creditStage
  split
  · exact s.creditRecord_keptView _
  · rfl

theorem State.storeStage_evolves (s : State) : s.evolvesTo s.storeStage := by
  unfold State.storeStage
  split
  · rename_i held
    exact (s.offerRecord_evolves _ (.inl held)).trans (State.completeClose_evolves _)
  · exact s.completeClose_evolves

/-! ### Commands -/

theorem State.evolvesTo.complete {s u : State} (h : s.evolvesTo u) (code : Byte) (r : CmdResult) : s.evolvesTo (u.complete code r) :=
  h.then_eq rfl

theorem State.doTimeLoad_evolves (s : State) : s.evolvesTo s.doTimeLoad := by
  unfold State.doTimeLoad
  dsimp only
  split
  · rename_i real
    refine State.evolvesTo.complete (State.evolvesTo.trans ?_ (State.triggerClose_evolves _ _ _ _ (absurd · (by decide)))) _ _
    exact State.evolvesTo_of_move (.load _ real) rfl
  · exact State.evolvesTo_of_eq rfl

theorem State.doTimeTrim_evolves (s : State) (arg : Byte) : s.evolvesTo (s.doTimeTrim arg) := by
  unfold State.doTimeTrim
  split
  · exact State.evolvesTo_of_eq rfl
  · split
    · exact State.evolvesTo_of_eq rfl
    · exact State.evolvesTo_of_move (.trim _ arg.toInt) rfl

theorem State.validated_evolves (s : State) : s.evolvesTo s.validated := State.evolvesTo_of_move (.fault _ _) rfl

theorem State.doConfigCommit_evolves (s : State) (arg : Byte) : s.evolvesTo (s.doConfigCommit arg) := by
  unfold State.doConfigCommit State.doCommitAtNext State.doCommitNow
  dsimp only
  split
  · split
    · exact State.evolvesTo_of_eq rfl
    · split
      · rename_i passed
        exact s.validated_evolves.trans (State.evolvesTo_of_move (.freeze passed) rfl)
      · exact s.validated_evolves.complete _ _
  · split
    · split
      · rename_i pending
        exact (s.triggerClose_evolves _ _ _ fun _ => .inl pending).complete _ _
      · split
        · rename_i passed
          exact (s.validated_evolves.trans (State.triggerClose_evolves _ _ _ _ fun _ => .inr passed)).complete _ _
        · exact s.validated_evolves.complete _ _
    · exact State.evolvesTo_of_eq rfl

theorem State.doConfigCancel_evolves (s : State) : s.evolvesTo s.doConfigCancel := by
  unfold State.doConfigCancel
  split
  · exact State.evolvesTo_of_move (.thaw _) rfl
  · exact State.evolvesTo_of_eq rfl

theorem State.doConfigFetch_evolves (s : State) : s.evolvesTo s.doConfigFetch := by
  unfold State.doConfigFetch
  split
  · exact State.evolvesTo_of_eq rfl
  · rename_i unfrozen
    exact State.evolvesTo_of_move (.stage s.cfg.active (Bool.eq_false_of_not_eq_true unfrozen)) rfl

theorem State.doRecordOpen_evolves (s : State) : s.evolvesTo s.doRecordOpen := by
  unfold State.doRecordOpen
  split
  · exact State.evolvesTo_of_eq rfl
  · rename_i some_record
    exact State.evolvesTo_of_move (.read some_record) rfl

theorem State.doRecordRelease_evolves (s : State) : s.evolvesTo s.doRecordRelease := by
  unfold State.doRecordRelease
  split
  · exact State.evolvesTo_of_move (.release _) rfl
  · exact State.evolvesTo_of_eq rfl

theorem State.doSoftReset_evolves (s : State) : s.evolvesTo s.doSoftReset := by
  have thawed : s.evolvesTo { s.discardSamples with cfg := { s.discardSamples.cfg with commitPending := false } } :=
    State.evolvesTo.after_eq (State.evolvesTo_of_move (.thaw _) rfl) s.discardSamples_keptView
  refine thawed.trans (State.evolvesTo_of_move (.endHold _) ?_)
  unfold State.doSoftReset
  dsimp only
  split <;> rfl

theorem State.owner_evolves (s : State) (c : Cmd) (arg : Byte) : s.evolvesTo (s.owner c arg) := by
  cases c with
  | timeLoad => exact s.doTimeLoad_evolves
  | timeTrim => exact s.doTimeTrim_evolves arg
  | configCommit => exact s.doConfigCommit_evolves arg
  | configCancel => exact s.doConfigCancel_evolves
  | configFetch => exact s.doConfigFetch_evolves
  | forceClose => exact (s.triggerClose_evolves _ _ _ (absurd · (by decide))).complete _ _
  | snapshot | totalsClear | demandReset => exact State.evolvesTo_of_eq rfl
  | recordOpen => exact s.doRecordOpen_evolves
  | recordRelease => exact s.doRecordRelease_evolves
  | queueFlush => exact State.evolvesTo_of_move (.flush _) rfl
  | softReset => exact s.doSoftReset_evolves

theorem State.commandRow_evolves (s : State) (c : Cmd) (arg : Byte) : s.evolvesTo (s.commandRow c arg) :=
  State.commandRow_holds (P := s.evolvesTo) c arg (State.evolvesTo_of_eq rfl) (State.evolvesTo_of_eq rfl)
    (fun _ => State.evolvesTo_of_eq rfl) (fun _ => State.evolvesTo_of_eq rfl)
    fun _ => (State.owner_evolves _ c arg).after_eq rfl

theorem State.handOver_evolves (s : State) : s.evolvesTo s.handOver := by
  refine State.evolvesTo_ite fun _ => ?_
  split
  · exact s.owner_evolves _ _
  · exact State.evolvesTo_of_eq rfl

theorem State.takeUnknown_keptView (s : State) (code : Byte) : (s.takeUnknown code).keptView = s.keptView := by
  unfold State.takeUnknown
  split <;> rfl

/-! ### Supplies and the crystal -/

theorem State.enterBackup_evolves (s : State) : s.evolvesTo s.enterBackup := by
  refine State.evolvesTo_of_move (.endHold _) ?_
  simp [State.enterBackup, State.keptView]

theorem State.returnToMain_evolves (s : State) : s.evolvesTo s.returnToMain :=
  (State.buildDueGap_evolves _).after_eq (State.reportAbandoned_keptView _)

theorem State.coldStart_evolves (s : State) (vddOk : Bool) : s.evolvesTo (s.coldStart vddOk) :=
  State.evolvesTo.trans (u := s.blank _) (State.evolvesTo_of_move (.cold _) rfl)
    (State.opening_evolves _ .boundary _ _ _ (absurd · (by decide)))

theorem State.edges_evolves (s : State) (before : EventUnit) : s.evolvesTo (s.edges before) := by
  have settled : s.evolvesTo s.settle := by
    refine State.evolvesTo_ite fun _ => ?_
    split
    · exact s.returnToMain_evolves
    · exact State.evolvesTo_of_eq rfl
  exact settled.then_eq rfl

theorem State.phaseStep_evolves (s : State) : s.evolvesTo s.phaseStep := by
  unfold State.phaseStep
  split
  · rename_i below
    exact State.evolvesTo_of_move (.phase _ below) rfl
  · exact s.secondEvent_evolves

theorem State.crystalPeriod_evolves (s : State) : s.evolvesTo s.crystalPeriod := by
  refine State.evolvesTo_ite fun _ => ?_
  split
  · exact (s.edges_evolves _).trans (State.phaseStep_evolves _)
  · have counted : s.evolvesTo { s with freeCount := s.freeCount + 1 } := State.evolvesTo_of_eq rfl
    dsimp only
    split
    · exact (counted.trans (State.phaseStep_evolves _)).trans (State.edges_evolves _ _)
    · exact (counted.trans (State.edges_evolves _ _)).trans (State.phaseStep_evolves _)

/-! ### The register window -/

/-- The last byte of a field moves the view as the field's effect does. -/
theorem State.fieldWrite_evolves (s : State) (select : Reg → Bool) (b : Byte) (act : Reg → List Byte → State → State)
    (h : ∀ r bytes (u : State), u.evolvesTo (act r bytes u)) : s.evolvesTo (s.fieldWrite select b act) :=
  State.fieldWrite_holds (P := s.evolvesTo) select b act (State.evolvesTo_of_eq rfl) (State.evolvesTo_of_eq rfl)
    fun r bytes _ => (h r bytes _).after_eq rfl

theorem State.readRecordByte_evolves (s : State) : s.evolvesTo s.readRecordByte.2 := by
  unfold State.readRecordByte
  dsimp only
  split
  · rename_i reading
    split
    · refine State.evolvesTo_of_move (.deliver reading) ?_
      simp [State.keptView]
    · exact State.evolvesTo_of_eq rfl
  · exact State.evolvesTo_of_move (.pastEnd _) rfl

theorem State.captured_keptView (s : State) (r : Reg) (k : Nat) : (s.captured r k).2.keptView = s.keptView := by
  unfold State.captured
  (repeat' split) <;> rfl

theorem State.readByte_evolves (s : State) : s.evolvesTo s.readByte.2 := by
  unfold State.readByte
  split
  · exact State.evolvesTo_of_eq rfl
  · split
    · exact s.readRecordByte_evolves
    · exact State.evolvesTo_of_eq (s.captured_keptView _ _)

theorem State.putStaged_evolves (s : State) (r : Reg) (bytes : List Byte) : s.evolvesTo (s.putStaged r bytes) := by
  unfold State.putStaged
  split
  · exact State.evolvesTo_of_eq rfl
  · rename_i unfrozen
    exact State.evolvesTo_of_move (.stage _ (Bool.eq_false_of_not_eq_true unfrozen)) rfl

/-! ### Every command, every step -/

/-- Every command moves the view: the crystal, the close, the commands, the supplies and the window by the moves of their own rules,
the intake, the engine and the outputs not at all. -/
theorem exec_evolves {c : Instr} {s t : State} (h : exec c s = .next t) : s.evolvesTo t := by
  cases c <;> cases h
  case linkFrame lda => exact State.evolvesTo_of_eq (s.linkEdge_keptView false lda)
  case frameTruncated lda => exact State.evolvesTo_of_eq (s.linkEdge_keptView true lda)
  case linkBit lfs lda => exact State.evolvesTo_of_eq (s.linkEdge_keptView lfs lda)
  case sampleEntryGroup b => exact State.evolvesTo_ite fun _ => State.evolvesTo_of_eq (State.intake_keptView _ _ _ _ _)
  case accumulation =>
    split
    · exact State.evolvesTo_ite fun _ => State.evolvesTo_of_eq (s.completeAccumulation_keptView _)
    · exact State.evolvesTo_of_eq rfl
  case secondEvent => exact State.evolvesTo_ite fun _ => s.secondEvent_evolves
  case secondMarkerRise => exact State.evolvesTo_ite fun _ => State.evolvesTo_of_move (.phase _ (by decide)) rfl
  case build => exact State.evolvesTo_ite fun _ => s.buildStage_evolves
  case credit => exact State.evolvesTo_ite fun _ => s.creditStage_evolves
  case store => exact State.evolvesTo_ite fun _ => s.storeStage_evolves
  case commandHandover => exact s.handOver_evolves
  case backupEntry => exact State.evolvesTo_ite fun _ => s.enterBackup_evolves
  case backupReturn => exact State.evolvesTo_ite fun _ => s.returnToMain_evolves
  case supplyLoss => exact State.evolvesTo_of_move (.cold _) rfl
  case coldStart vddOk => exact s.coldStart_evolves vddOk
  case configCommitAtNext arg =>
    split
    · exact State.evolvesTo_of_eq rfl
    · exact s.commandRow_evolves .configCommit arg
  case configCommitNow => exact s.commandRow_evolves .configCommit 1
  case timeLoad arg => exact s.commandRow_evolves .timeLoad arg
  case timeTrim arg => exact s.commandRow_evolves .timeTrim arg
  case configCancel arg => exact s.commandRow_evolves .configCancel arg
  case configFetch arg => exact s.commandRow_evolves .configFetch arg
  case forceClose arg => exact s.commandRow_evolves .forceClose arg
  case snapshot arg => exact s.commandRow_evolves .snapshot arg
  case totalsClear arg => exact s.commandRow_evolves .totalsClear arg
  case demandReset arg => exact s.commandRow_evolves .demandReset arg
  case recordOpen arg => exact s.commandRow_evolves .recordOpen arg
  case recordRelease arg => exact s.commandRow_evolves .recordRelease arg
  case queueFlush arg => exact s.commandRow_evolves .queueFlush arg
  case softReset arg => exact s.commandRow_evolves .softReset arg
  case unknownCommand =>
    exact State.commandByte_holds (P := s.evolvesTo) _ _ (State.evolvesTo_of_eq rfl) (State.evolvesTo_of_eq rfl) fun code =>
      State.evolvesTo_of_eq (State.takeUnknown_keptView _ code)
  case csnFall =>
    refine State.evolvesTo_ite fun _ => State.evolvesTo_of_eq ?_
    dsimp only
    split <;> rfl
  case csnRise =>
    refine State.evolvesTo_of_eq ?_
    (repeat' split) <;> simp [State.keptView]
  case recordDataRead => exact State.evolvesTo_ite fun _ => s.readByte_evolves.then_eq rfl
  case readOnlyWrite =>
    split
    · exact State.evolvesTo_ite fun _ => State.evolvesTo_of_eq rfl
    · exact State.evolvesTo_ite fun _ => State.evolvesTo_of_eq rfl
  case fieldLatchByte =>
    refine State.evolvesTo_of_eq ?_
    (repeat' split) <;> rfl
  case stagedFieldWrite b => exact s.fieldWrite_evolves _ b _ fun r bytes u => u.putStaged_evolves r bytes
  case pageWrite b =>
    refine s.fieldWrite_evolves _ b _ fun _ _ u => State.evolvesTo_of_eq ?_
    unfold State.putPage
    split <;> rfl
  case slotSelectWrite b =>
    refine s.fieldWrite_evolves _ b _ fun _ _ u => State.evolvesTo_of_eq ?_
    unfold State.putSelect
    (repeat' split) <;> rfl
  case modeWrite b =>
    refine s.fieldWrite_evolves _ b _ fun _ _ u => State.evolvesTo_of_eq ?_
    unfold State.putMode
    split <;> rfl
  case snapItemWrite b =>
    refine s.fieldWrite_evolves _ b _ fun _ _ u => State.evolvesTo_of_eq ?_
    unfold State.putSnapItem
    split <;> rfl
  case queuePolicyWrite b =>
    refine s.fieldWrite_evolves _ b _ fun _ _ u => ?_
    split
    · exact State.evolvesTo_of_move (.rules _ false u.queue.threshold) rfl
    · split
      · exact State.evolvesTo_of_move (.rules _ true u.queue.threshold) rfl
      · exact State.evolvesTo_of_eq rfl
  case levelThresholdWrite b =>
    exact s.fieldWrite_evolves _ b _ fun _ _ u => State.evolvesTo_of_move (.rules _ u.queue.overwrite b) rfl
  case causeClear b | maskWrite b | registerWrite b =>
    exact s.fieldWrite_evolves _ b _ fun _ _ _ => State.evolvesTo_of_eq rfl
  case engineTake | addressByte | sampleEntryByte | settlingStart | settlingAbort | pulseStart | pulseEnd =>
    exact State.evolvesTo_ite fun _ => State.evolvesTo_of_eq rfl
  case recordMemoryFault a flips =>
    split
    · exact State.evolvesTo_of_eq rfl
    · exact State.evolvesTo_of_move (.alter _ _ _) rfl
  case oscillatorStop | oscillatorRestart => exact State.evolvesTo_of_eq rfl

/-- Every step moves the view. -/
theorem step_evolves {s t : State} (h : step s = .next t) : s.evolvesTo t := by
  unfold step at h
  split at h
  · cases h
    exact s.crystalPeriod_evolves
  · exact (exec_evolves h).after_eq rfl

/-! ### The invariants -/

/-- Settles O56: every step is a sequence of moves of the view, and every move keeps the calendar real. -/
theorem stepKeepsTheCalendarReal : Obligations.StepKeepsTheCalendarReal :=
  fun _ _ hs h => (step_evolves h).keeps (P := fun v => v.cal.inv) (fun _ _ m => m.keeps_calendar) hs

/-- Settles O57: every step is a sequence of moves of the view, and every move keeps the configuration valid. -/
theorem stepKeepsTheConfigurationValid : Obligations.StepKeepsTheConfigurationValid :=
  fun _ _ hs h => (step_evolves h).keeps (P := fun v => v.cfg.inv) (fun _ _ m => m.keeps_config) hs

/-- Settles O58: every step is a sequence of moves of the view, and every move keeps the queue's values in agreement and the memory
in its canonical form. -/
theorem stepKeepsTheRecordQueue : Obligations.StepKeepsTheRecordQueue :=
  ⟨fun _ _ hs h => (step_evolves h).keeps (P := KeptView.queueInv) (fun _ _ m => m.keeps_queue) hs,
    fun _ _ hs h => (step_evolves h).keeps (P := fun v => v.queue.mem.wf = true) (fun _ _ m => m.keeps_memory) hs⟩

/-- Settles O59: the tags by the two banks of a cold start, the queue by its lemmas, every other value as it stands. -/
theorem resetMeetsTheInvariants : Obligations.ResetMeetsTheInvariants :=
  ⟨.inl ⟨rfl, rfl⟩, ⟨Nat.zero_le _, fun _ => nofun, .nil⟩, ⟨rfl, rfl, phasePeriods_pos⟩, ⟨by decide, nofun⟩,
    ⟨RecordQueue.cold_inv, RecordQueue.cold_holdInv, fun _ he => absurd he.symm (Option.some_ne_none _)⟩, reset_memory_wf⟩

end Sys2Proof.Machine
end

section
/-! SUPPORT. Second events and single crystal periods (R39, R43, R45, R47, R75, R148). -/

namespace Sys2Proof.Machine

/-! ### Second events -/

theorem State.ticking_of {s : State} (osc : s.oscRunning = true) (powered : s.monitor.supply ≠ .absent) : s.ticking = true := by
  simp [State.ticking, osc, powered]

theorem State.ticking_of_stopped {s : State} (osc : s.oscRunning = false) : s.ticking = false := by simp [State.ticking, osc]

/-- SECOND_EVENT while the crystal counts (R39). -/
theorem exec_secondEvent {s : State} (ticking : s.ticking = true) : exec .secondEvent s = .next s.secondEvent := by
  simp [exec, execSecondEvent, ticking]

@[simp] theorem State.secondCounted_ic (s : State) : s.secondCounted.ic = s.ic := by simp [State.secondCounted]

@[simp] theorem State.secondCounted_monitor (s : State) : s.secondCounted.monitor = s.monitor := by simp [State.secondCounted]

@[simp] theorem State.secondCounted_main (s : State) : s.secondCounted.main = s.main := by simp [State.secondCounted]

theorem State.secondCounted_bank_other (s : State) : s.secondCounted.bank s.openTag.other = s.bank s.openTag.other := by
  rw [State.secondCounted]
  cases s.openTag <;> rfl

/-- The OPEN bank counts the second in MAIN alone (R75). -/
theorem State.secondCounted_openBank {s : State} (backup : s.monitor.supply ≠ .main) : s.secondCounted.openBank = s.openBank := by
  rw [State.openBank, State.secondCounted_openTag, State.secondCounted]
  simp only [backup, if_false, State.openBank]
  cases s.openTag <;> rfl

/-- A boundary that triggers a close: any in MAIN, the first one in BACKUP (R76, R93). -/
theorem State.actOnBoundary_closes (s : State) (t : DateTime) (v : Bool) {supply : SupplyState} {found : BackupBoundary}
    (first : ¬ (supply = .backup ∧ found = .taken)) :
    State.closeBegan { s with ic := { s.ic with
      backupBoundary := if s.monitor.supply = .backup then .taken else s.ic.backupBoundary } }
      (s.actOnBoundary t v supply found) .boundary t v := by
  rw [State.actOnBoundary, if_neg first]
  exact State.triggerClose_spec _ _ _ _

/-- A later boundary in BACKUP ends a missed interval (R148). -/
theorem State.actOnBoundary_misses (s : State) (t : DateTime) (v : Bool) {supply : SupplyState} {found : BackupBoundary}
    (later : supply = .backup ∧ found = .taken) : s.actOnBoundary t v supply found = s.missInterval t v := by
  rw [State.actOnBoundary, if_pos later]

theorem State.boundary_of_idle {s : State} (idle : s.ic.stage = .idle) (t : DateTime) (v : Bool) :
    s.boundary t v = s.actOnBoundary t v s.monitor.supply s.ic.backupBoundary := by
  simp [State.boundary, State.closeBusy, idle]

theorem State.boundary_of_busy {s : State} (busy : s.ic.stage ≠ .idle) (t : DateTime) (v : Bool) :
    s.boundary t v = s.deferBoundary t v := by
  simp [State.boundary, State.closeBusy, busy]

/-- Settles O20: without a boundary a second event is the count of the second; without the oscillator it does not take place. -/
theorem secondEventCountsASecond : Obligations.SecondEventCountsASecond := by
  refine fun s => ⟨fun osc powered no_boundary => ?_, fun stopped => ?_⟩
  · rw [exec_secondEvent (State.ticking_of osc powered), State.secondEvent_eq, if_neg no_boundary]
  · simp [exec, execSecondEvent, State.ticking_of_stopped stopped]

/-- Settles O21: the boundary follows the count of its second; with a close in progress it is held. -/
theorem boundaryClosesOrIsDeferred : Obligations.BoundaryClosesOrIsDeferred := by
  intro s osc supply boundary
  have powered : s.monitor.supply ≠ .absent := by rcases supply with h | h <;> simp [h]
  have event : exec .secondEvent s = .next (s.secondCounted.boundary s.secondCounted.cal.time s.secondCounted.cal.valid) := by
    rw [exec_secondEvent (State.ticking_of osc powered), State.secondEvent_eq, if_pos boundary]
  refine ⟨fun idle first => ⟨_, event, ?_⟩, fun busy => ?_⟩
  · rw [State.boundary_of_idle (by simpa using idle)]
    have not_later : ¬ (s.secondCounted.monitor.supply = .backup ∧ s.secondCounted.ic.backupBoundary = .taken) := by
      rintro ⟨backup, taken⟩
      simp_all
    simpa using s.secondCounted.actOnBoundary_closes s.secondCounted.cal.time s.secondCounted.cal.valid not_later
  · rw [event, State.boundary_of_busy (by simpa using busy), State.deferBoundary]
    simp

/-- In BACKUP an opening leaves the latest values, which are lost there (R25). -/
theorem State.latestAfter.main_eq {s u : State} {tag : Tag} (h : s.latestAfter u tag) (backup : s.monitor.supply ≠ .main) :
    u.main = s.main := by
  obtain ⟨rest, latest⟩ := h
  have same : u.main.latest = s.main.latest := by
    refine Vector.ext fun i hi => ?_
    have := latest ⟨i, hi⟩
    simp only [backup, false_and, if_false, Fin.getElem_fin] at this
    rw [this]
    cases s.main.latest[i] <;> rfl
  rw [rest, same]

/-- Settles O22: the later boundary ends a missed interval of a bank that counted nothing in BACKUP. -/
theorem laterBackupBoundaryIsMissed : Obligations.LaterBackupBoundaryIsMissed := by
  intro s osc backup taken idle boundary
  have not_main : s.monitor.supply ≠ .main := by simp [backup]
  have event : exec .secondEvent s = .next (s.secondCounted.missInterval s.secondCounted.cal.time s.secondCounted.cal.valid) := by
    rw [exec_secondEvent (State.ticking_of osc (by simp [backup])), State.secondEvent_eq, if_pos boundary,
      State.boundary_of_idle (by simpa using idle), State.actOnBoundary_misses _ _ _ (by simp [backup, taken])]
  obtain ⟨opened, other, ic, applied, latest, elsewhere⟩ :=
    s.secondCounted.missInterval_spec s.secondCounted.cal.time s.secondCounted.cal.valid
  rw [State.secondCounted_openTag] at opened other
  rw [State.secondCounted_bank_other] at other
  rw [State.secondCounted_ic, State.secondCounted_openBank not_main] at ic
  exact ⟨_, event, opened, other, ic, applied, (latest.main_eq (by simpa using not_main)).trans s.secondCounted_main, elsewhere⟩

/-! ### Crystal periods -/

/-- Nothing settles in a period in which no return is under way (R144). -/
theorem State.settle_of_not_settling {s : State} (h : ¬ (s.monitor.supply = .backup ∧ s.monitor.vddOk = true)) : s.settle = s := by
  rw [State.settle, if_neg h]

theorem EventOutput.edge_of_idle (o : EventOutput) : o.edge .idle = o := rfl

/-- Without settling and pulses a period has no other event than that of the phase. -/
theorem State.edges_quiet {s : State} {before : EventUnit} (h : ¬ (s.monitor.supply = .backup ∧ s.monitor.vddOk = true))
    (a : before.a.pulse = .idle) (b : before.b.pulse = .idle) : s.edges before = s := by
  simp [State.edges, State.settle_of_not_settling h, a, b, EventOutput.edge_of_idle]

/-- A period inside a second: settling and pulses, then one phase more (R39). -/
theorem State.crystalPeriod_inside {s : State} (ticking : s.ticking = true) (inside : s.cal.phase + 1 < 32768) :
    s.crystalPeriod = (s.edges s.events).phaseStep := by
  rw [State.crystalPeriod, if_pos ticking, if_pos (by exact inside)]

theorem State.phaseStep_inside {s : State} (inside : s.cal.phase + 1 < 32768) :
    s.phaseStep = { s with cal := { s.cal with phase := s.cal.phase + 1 } } := by
  rw [State.phaseStep, if_pos (by exact inside)]

theorem State.phaseStep_last {s : State} (last : s.cal.phase = 32767) : s.phaseStep = s.secondEvent := by
  rw [State.phaseStep, if_neg (by simp [last])]

theorem State.secondEvent_phase (s : State) : s.secondEvent.cal.phase = 0 := by
  rw [State.secondEvent_eq]
  split <;> simp [State.secondCounted]

theorem step_idle {s : State} (h : s.pending = []) : step s = .next s.crystalPeriod := by simp [step, h]

/-- Quiet periods inside a second add to the phase alone (R39). -/
theorem run_inside : ∀ (n : Nat) {s : State}, s.pending = [] → s.ticking = true →
    ¬ (s.monitor.supply = .backup ∧ s.monitor.vddOk = true) → s.events.a.pulse = .idle → s.events.b.pulse = .idle →
    s.cal.phase + n < 32768 → run n s = some { s with cal := { s.cal with phase := s.cal.phase + n } }
  | 0, _, _, _, _, _, _, _ => rfl
  | n + 1, s, pending, ticking, quiet, a, b, below => by
    have one : step s = .next { s with cal := { s.cal with phase := s.cal.phase + 1 } } := by
      rw [step_idle pending, State.crystalPeriod_inside ticking (by omega), State.edges_quiet quiet a b,
        State.phaseStep_inside (by omega)]
    have rest := run_inside n (s := { s with cal := { s.cal with phase := s.cal.phase + 1 } }) pending ticking quiet a b
      (by simp only; omega)
    simp only [run, one, rest]
    simp [Nat.add_assoc, Nat.add_comm 1]

/-- Settles O3: every period but the last of a second adds one to the phase, and in the last one either order is the second event. -/
theorem secondsComeEvery32768Periods : Obligations.SecondsComeEvery32768Periods := by
  intro s pending osc supply a b
  have quiet : ¬ (s.monitor.supply = .backup ∧ s.monitor.vddOk = true) := by rcases supply with h | h <;> simp [h]
  have ticking : s.ticking = true := State.ticking_of osc (by rcases supply with h | h <;> simp [h])
  refine ⟨fun n => run_inside n pending ticking quiet a b, fun last =>
    ⟨_, exec_secondEvent (by exact ticking), ?_, State.secondEvent_phase _⟩⟩
  rw [step_idle pending, State.crystalPeriod, if_pos ticking, if_neg (by simp [last])]
  dsimp only
  split
  · rw [State.phaseStep_last (by exact last), State.edges_quiet (by simpa using quiet) a b]
  · rw [State.edges_quiet (by exact quiet) a b, State.phaseStep_last (by exact last)]

/-- Settles O23: the marker by its phase, the oscillator by the condition of every row of the crystal. -/
theorem markerAndOscillator : Obligations.MarkerAndOscillator := by
  refine fun s => ⟨fun osc powered low => ⟨?_, _, ?_, rfl, ?_⟩, fun high => ?_, rfl, rfl, fun stopped => ⟨?_, fun pending => ?_⟩⟩
  · simpa [Calendar.markerHigh] using low
  · simp [exec, execSecondMarkerRise, State.ticking_of osc powered, low]
  · simp [Calendar.markerHigh]
  · have : ¬ s.cal.phase < 16384 := by simpa [Calendar.markerHigh] using high
    simp [exec, execSecondMarkerRise, this]
  · simp [exec, execSecondMarkerRise, State.ticking_of_stopped stopped]
  · rw [step_idle pending, State.crystalPeriod, if_neg (by simp [State.ticking_of_stopped stopped])]

end Sys2Proof.Machine
end

section
/-! SUPPORT. The two producers of samples and the queue between them and the engine (R1 to R18). -/

namespace Sys2Proof.Machine

/-- A bank replaced by one of the same state leaves the OPEN bank's tag. -/
theorem State.openTag_setBank {s : State} {t : Tag} {b : Bank} (h : b.state = (s.bank t).state) : (s.setBank t b).openTag = s.openTag := by
  cases t
  · simp only [State.openTag, State.setBank, h]
    rfl
  · rfl

theorem State.setBank_setBank (s : State) (t : Tag) (b b' : Bank) : (s.setBank t b).setBank t b' = s.setBank t b' := by
  cases t <;> rfl

/-! ### The sample link -/

@[simp] theorem State.withLink_openTag (s : State) (l : Link) : (s.withLink l).openTag = s.openTag := rfl

@[simp] theorem State.withLink_openBank (s : State) (l : Link) : (s.withLink l).openBank = s.openBank := rfl

@[simp] theorem State.withLink_setBank (s : State) (l : Link) (t : Tag) (b : Bank) :
    (s.withLink l).setBank t b = (s.setBank t b).withLink l := by cases t <;> rfl

/-- An edge with LFS high in HUNT begins a frame (R1). -/
theorem State.linkEdge_begins {s : State} (main : s.monitor.supply = .main) (hunt : s.main.link.shift = .hunt) (lda : Bool) :
    s.linkEdge true lda = s.beginFrame lda := by simp [State.linkEdge, State.inMain_of main, hunt]

/-- An edge with LFS high inside a frame truncates it (R2). -/
theorem State.linkEdge_truncates {s : State} (main : s.monitor.supply = .main) {n : Nat} {bits : Word}
    (shifting : s.main.link.shift = .shifting n bits) (lda : Bool) :
    s.linkEdge true lda = (s.reject .linkError).beginFrame lda := by simp [State.linkEdge, State.inMain_of main, shifting]

/-- An edge with LFS low in HUNT is ignored (R1). -/
theorem State.linkEdge_ignored {s : State} (main : s.monitor.supply = .main) (hunt : s.main.link.shift = .hunt) (lda : Bool) :
    s.linkEdge false lda = s := by simp [State.linkEdge, State.inMain_of main, hunt]

/-- An edge with LFS low inside a frame gathers a bit (R1). -/
theorem State.linkEdge_gathers {s : State} (main : s.monitor.supply = .main) {n : Nat} {bits : Word}
    (shifting : s.main.link.shift = .shifting n bits) (inside : n < 31) (lda : Bool) :
    s.linkEdge false lda = s.withLink { s.main.link with shift := .shifting (n + 1) (nextBits bits lda) } := by
  simp [State.linkEdge, State.inMain_of main, shifting, inside]

/-- The first bit of a frame is its bit 31. -/
theorem nextBits_first (w : Word) : nextBits 0 (w.getLsbD 31) = w >>> 31 := by
  have none_above : w >>> (31 + 1) = 0 := BitVec.ushiftRight_eq_zero (Nat.le_refl 32)
  rw [← none_above]
  exact nextBits_shift w 31

theorem nextBits_zero (lda : Bool) : nextBits 0 lda = if lda then 1 else 0 := by cases lda <;> decide

/-- Settles O7: each of the edges in HUNT and inside a frame, by the row of R1's table. -/
theorem linkBitsAreGathered : Obligations.LinkBitsAreGathered := by
  refine fun s w main => ⟨fun hunt => ⟨?_, fun lda => ?_⟩, fun n low high shifting => ?_⟩
  · rw [exec, execLinkBit, State.linkEdge_begins main hunt, State.beginFrame, nextBits_first]
    rfl
  · rw [exec, execLinkBit, State.linkEdge_ignored main hunt]
  · have next : nextBits (w >>> (32 - n)) (w.getLsbD (31 - n)) = w >>> (31 - n) := by
      rw [show 32 - n = 31 - n + 1 by omega]
      exact nextBits_shift w (31 - n)
    rw [exec, execLinkBit, State.linkEdge_gathers main shifting (by omega), next]
    rfl

/-- Settles O8: both are one rejection of the OPEN bank, before the new frame begins or in HUNT. -/
theorem truncatedAndBadParityFramesAreRejected : Obligations.TruncatedAndBadParityFramesAreRejected := by
  refine fun s main => ⟨fun n bits lda shifting => ?_, fun w shifting odd => ?_⟩
  · rw [exec, execFrameTruncated, State.linkEdge_truncates main shifting, State.reject_eq, State.beginFrame, nextBits_zero, main]
    cases s.openTag <;> rfl
  · have bad : badParity w = true := by simpa [badParity, onesCount] using odd
    rw [exec_linkFrame_complete main shifting, State.decideFrame, if_pos bad, State.reject_eq]
    simp [main, satInc_eight]

/-- The state after the sequence check of a frame that is complete (R1, R4, R5). -/
def State.sequenceChecked (s : State) (r : BitVec 3) : State :=
  { s.setBank s.openTag { s.openBank with gaps := satAdd s.openBank.gaps (s.main.link.gap r) } with
    events := if s.main.link.gap r = 0 then s.events else s.events.set .main .linkError
    main := { s.main with link := ⟨.hunt, r + 1, false⟩ } }

/-- A frame with even parity passes its sequence check and is offered to the queue (R3 to R6). -/
theorem exec_linkFrame_even {s : State} {w : Word} (main : s.monitor.supply = .main)
    (shifting : s.main.link.shift = .shifting 31 (w >>> 1)) (even : ((List.range 32).countP fun i => w.getLsbD i) % 2 = 0) :
    exec (.linkFrame (w.getLsbD 0)) s =
      .next ((s.sequenceChecked (w.extractLsb' 1 3)).intake false (w.toNat / 2 ^ 28) (w.extractLsb' 4 24) .linkError) := by
  have good : badParity w = false := by simp [badParity, onesCount, even]
  have checked : (s.withLink { s.main.link with shift := .hunt }).checkSequence (w.extractLsb' 1 3) =
      s.sequenceChecked (w.extractLsb' 1 3) := by
    rw [State.checkSequence_eq, State.sequenceChecked]
    simp [main, Link.gap]
  rw [exec_linkFrame_complete main shifting, State.decideFrame, good, frameTag_toNat, frameSequence, frameValue, checked]
  rfl

theorem State.sequenceChecked_openTag (s : State) (r : BitVec 3) : (s.sequenceChecked r).openTag = s.openTag :=
  State.openTag_setBank (s := s) (t := s.openTag) rfl

theorem State.sequenceChecked_openBank (s : State) (r : BitVec 3) :
    (s.sequenceChecked r).openBank = { s.openBank with gaps := satAdd s.openBank.gaps (s.main.link.gap r) } := by
  rw [State.openBank, State.sequenceChecked_openTag, State.sequenceChecked]
  cases s.openTag <;> rfl

theorem State.sequenceChecked_cfg (s : State) (r : BitVec 3) : (s.sequenceChecked r).cfg = s.cfg := State.setBank_cfg _ _ _

/-- A frame with even parity of an enabled LINK channel arrives after its sequence check. -/
theorem State.exec_linkFrame_accepted {s : State} {w : Word} {c : Fin 6} (main : s.monitor.supply = .main)
    (shifting : s.main.link.shift = .shifting 31 (w >>> 1)) (even : ((List.range 32).countP fun i => w.getLsbD i) % 2 = 0)
    (tag : w.toNat / 2 ^ 28 = c.val) (enabled : s.cfg.active.channels[c].enabled = 1) (source : s.cfg.active.channels[c].source = 0) :
    exec (.linkFrame (w.getLsbD 0)) s = .next ((s.sequenceChecked (w.extractLsb' 1 3)).arrive c (w.extractLsb' 4 24)) := by
  rw [exec_linkFrame_even main shifting even, tag, State.intake_accepted _ false c _ _ (by rw [State.sequenceChecked_cfg]; exact enabled)
    (by rw [State.sequenceChecked_cfg, source]; rfl)]

/-- Settles O9: the sequence check, then the arrival at a queue with room. -/
theorem goodFrameArrives : Obligations.GoodFrameArrives := by
  intro s w c main shifting even tag enabled source room
  dsimp only
  rw [State.exec_linkFrame_accepted main shifting even tag enabled source, State.arrive_room _ _ _ (by exact room),
    State.sequenceChecked_openTag]
  rfl

/-- A change of the OPEN bank after the sequence check. -/
theorem State.sequenceChecked_setBank (s : State) (r : BitVec 3) (b : Bank) :
    (s.sequenceChecked r).setBank s.openTag b = { s.setBank s.openTag b with
      events := (s.sequenceChecked r).events, main := (s.sequenceChecked r).main } := by
  rw [State.sequenceChecked]
  cases s.openTag <;> rfl

/-- The gap and the rejection of one frame set LINK_ERROR once. -/
theorem State.sequenceChecked_linkError (s : State) (r : BitVec 3) :
    (s.sequenceChecked r).events.set .main .linkError = s.events.set .main .linkError := by
  rw [State.sequenceChecked]
  dsimp only
  split
  · rfl
  · exact EventUnit.set_set _ _ _

theorem State.sequenceChecked_supply {s : State} (main : s.monitor.supply = .main) (r : BitVec 3) :
    (s.sequenceChecked r).monitor.supply = .main := by simp [State.sequenceChecked, main]

/-- Settles O10: the sequence check, then the rejection. -/
theorem frameOfWrongChannelIsRejected : Obligations.FrameOfWrongChannelIsRejected := by
  intro s w main shifting even wrong
  dsimp only
  rw [exec_linkFrame_even main shifting even, State.intake_rejected, State.reject_eq, State.sequenceChecked_openTag,
    State.sequenceChecked_openBank, State.sequenceChecked_setBank, State.sequenceChecked_supply main]
  · dsimp only
    rw [State.sequenceChecked_linkError]
    rfl
  · intro c hc
    rw [State.sequenceChecked_cfg]
    refine (wrong c hc).imp id fun source => ?_
    rw [source]
    decide

/-! ### The sample entry port -/

theorem State.atSampleEntry_of_slot {s : State} (h : s.writeSlot 0x2B) : s.atSampleEntry = true := by
  have pointed : s.pointed = some (.sampleEntry, 0) := by
    rw [State.pointed, h.2.2.2]
    rfl
  simp [State.atSampleEntry, State.writing_of_slot h, pointed]

/-- A byte below a word counts once, the word 256 times. -/
theorem toNat_append_byte {n : Nat} (x : BitVec n) (b : Byte) : (x ++ b).toNat = x.toNat * 256 + b.toNat := by
  rw [BitVec.toNat_append, ← Nat.shiftLeft_add_eq_or_of_lt b.isLt, Nat.shiftLeft_eq]

theorem groupValue_eq (b0 b1 b2 b3 : Byte) : groupValue [b0, b1, b2, b3] = b1 ++ b2 ++ b3 := by
  apply BitVec.eq_of_toNat_eq
  have := (b1 ++ b2 ++ b3).isLt
  rw [toNat_append_byte, toNat_append_byte] at this ⊢
  simp only [groupValue, List.drop_succ_cons, List.drop_zero, beNat, List.foldl_cons, List.foldl_nil, BitVec.toNat_ofNat]
  omega

/-- The state with the partial group empty again (R9). -/
def State.groupEmptied (s : State) : State := { s with main := { s.main with group := [] } }

theorem State.groupEmptied_setBank (s : State) (t : Tag) (b : Bank) : s.groupEmptied.setBank t b = (s.setBank t b).groupEmptied := by
  cases t <;> rfl

/-- The fourth byte of a group decides it (R10). -/
theorem exec_sampleEntryGroup {s : State} {b0 b1 b2 : Byte} (slot : s.writeSlot 0x2B) (group : s.main.group = [b0, b1, b2]) (b3 : Byte) :
    exec (.sampleEntryGroup b3) s = .next (s.groupEmptied.intake true b0.toNat (b1 ++ b2 ++ b3) .windowFault) := by
  simp [exec, execSampleEntryGroup, State.atSampleEntry_of_slot slot, group, groupValue_eq, State.groupEmptied]

/-- A group for an enabled HOST channel arrives (R10). -/
theorem exec_sampleEntryGroup_accepted {s : State} {b0 b1 b2 : Byte} {c : Fin 6} (slot : s.writeSlot 0x2B)
    (group : s.main.group = [b0, b1, b2]) (channel : b0.toNat = c.val) (enabled : s.cfg.active.channels[c].enabled = 1)
    (source : s.cfg.active.channels[c].source = 1) (b3 : Byte) :
    exec (.sampleEntryGroup b3) s = .next (s.groupEmptied.arrive c (b1 ++ b2 ++ b3)) := by
  rw [exec_sampleEntryGroup slot group, channel, State.intake_accepted s.groupEmptied true c _ _ enabled (beq_iff_eq.mpr source)]

/-- Settles O11: the byte joins the group, or completes it for an arrival or a rejection. -/
theorem sampleEntryGroups : Obligations.SampleEntryGroups := by
  refine fun s slot => ⟨fun b short => ?_, fun b0 b1 b2 b3 group => ⟨fun c channel enabled source room => ?_, fun wrong => ?_⟩⟩
  · simp [exec, execSampleEntryByte, State.atSampleEntry_of_slot slot, short]
  · rw [exec_sampleEntryGroup_accepted slot group channel enabled source, State.arrive_room _ _ _ (by exact room)]
    rfl
  · rw [exec_sampleEntryGroup slot group, State.intake_rejected s.groupEmptied _ _ _ _ (fun c hc =>
      (wrong c hc).imp id fun source => mt beq_iff_eq.mp source), State.reject_eq, State.groupEmptied_setBank]
    simp only [State.groupEmptied, slot.1, State.setBank_main]
    rfl

/-- An arrival after the sequence check at a full queue (R4, R14). -/
theorem State.sequenceChecked_arrive_full {s : State} (main : s.monitor.supply = .main) (full : s.main.samples.length = 32)
    (r : BitVec 3) (c : Fin 6) (v : BitVec 24) :
    (s.sequenceChecked r).arrive c v = { s.setBank s.openTag { s.openBank with
        gaps := satAdd s.openBank.gaps (s.main.link.gap r), dropped := satInc s.openBank.dropped } with
      events := (s.sequenceChecked r).events.set .main .sampleDrop
      main := (s.sequenceChecked r).main } := by
  rw [State.arrive_full _ _ _ (by exact full), State.sequenceChecked_openTag, State.sequenceChecked_openBank,
    State.sequenceChecked_setBank, State.sequenceChecked_supply main]

/-- Settles O12: from each producer, with its channel accepted, the arrival at a full queue. -/
theorem arrivalAtFullQueueIsDropped : Obligations.ArrivalAtFullQueueIsDropped := by
  intro s c main enabled full
  dsimp only
  refine ⟨fun w shifting even tag source noGap => ?_, fun w shifting even tag source clear differs => ?_,
    fun b0 b1 b2 b3 slot group channel source => ?_⟩
  · have gap : s.main.link.gap (w.extractLsb' 1 3) = 0 := by rcases noGap with h | h <;> simp [Link.gap, h]
    rw [State.exec_linkFrame_accepted main shifting even tag enabled source, State.sequenceChecked_arrive_full main full, gap,
      satAdd_zero, State.sequenceChecked, gap]
    rfl
  · have gap : s.main.link.gap (w.extractLsb' 1 3) = (w.extractLsb' 1 3 - s.main.link.expected).toNat := by
      simp [Link.gap, clear]
    have gap_pos : (w.extractLsb' 1 3 - s.main.link.expected).toNat ≠ 0 := fun h => differs (by bv_omega)
    rw [State.exec_linkFrame_accepted main shifting even tag enabled source, State.sequenceChecked_arrive_full main full, gap,
      State.sequenceChecked, gap, if_neg gap_pos]
    rfl
  · rw [exec_sampleEntryGroup_accepted slot group channel enabled source, State.arrive_full _ _ _ (by exact full),
      State.groupEmptied_setBank]
    simp only [State.groupEmptied, slot.1, State.setBank_main]
    rfl

/-! ### The engine -/

/-- Settles O13: ENGINE_TAKE by the two cases of the engine and the queue. -/
theorem engineTakesTheOldestEntry : Obligations.EngineTakesTheOldestEntry := by
  refine fun s main => ⟨fun x rest idle front => ?_, fun nothing => ?_⟩
  · simp [exec, execEngineTake, State.inMain_of main, MainDomain.take, idle, front]
  · have stays : s.main.take = s.main := by
      unfold MainDomain.take
      split
      · simp_all
      · rfl
    simp [exec, execEngineTake, stays]

end Sys2Proof.Machine
end

section
/-! SUPPORT. The increments of the modes (R26 to R30) and one accumulation (R19). -/

namespace Sys2Proof.Machine

/-! ### Increments -/

/-- A product of two fraction values is below 2^46 in magnitude by 2^23, but for the pair of the least values. -/
theorem fraction_mul_bounds {v w : Int} (v_low : -8388608 ≤ v) (v_high : v ≤ 8388607) (w_low : -8388608 ≤ w) (w_high : w ≤ 8388607)
    (not_least : ¬ (v = -8388608 ∧ w = -8388608)) : -70368735789056 ≤ v * w ∧ v * w ≤ 70368735789056 := by
  have bound : |v| * |w| ≤ 8388608 * 8388607 := by
    by_cases hv : v = -8388608
    · have w_abs : |w| ≤ 8388607 := abs_le.mpr ⟨by omega, w_high⟩
      exact mul_le_mul (abs_le.mpr ⟨v_low, by omega⟩) w_abs (abs_nonneg w) (by decide)
    · have v_abs : |v| ≤ 8388607 := abs_le.mpr ⟨by omega, v_high⟩
      rw [mul_comm]
      exact mul_le_mul (abs_le.mpr ⟨w_low, by omega⟩) v_abs (abs_nonneg v) (by decide)
  rw [← abs_mul] at bound
  exact abs_le.mp bound

/-- The half of the divisor that NEAREST adds (R22). -/
def ChannelEntry.half (e : ChannelEntry) : Int := if e.rounding = 1 then 4194304 else 0

/-- A rounded product by 2^23: the quotient of the product with the half that the rounding adds. -/
theorem ChannelEntry.roundedShift_bounds (e : ChannelEntry) (x : Int) :
    8388608 * roundedShift e.nearest 23 x ≤ x + e.half ∧ x + e.half < 8388608 * (roundedShift e.nearest 23 x + 1) := by
  by_cases h : e.rounding = 1
  · rw [nearest_eq_true h, roundedShift_nearest, half, if_pos h]
    exact roundedShift_floor_bounds 23 (x + 2 ^ 22)
  · rw [nearest_eq_false h, half, if_neg h, Int.add_zero]
    exact roundedShift_floor_bounds 23 x

/-- R27, R29: the rounded product of two fraction values, its range and its only value outside the fraction range. -/
theorem ChannelEntry.roundedProduct_spec (e : ChannelEntry) {v w : Int} (v_low : -8388608 ≤ v) (v_high : v ≤ 8388607)
    (w_low : -8388608 ≤ w) (w_high : w ≤ 8388607) :
    -8388607 ≤ roundedShift e.nearest 23 (v * w) ∧ roundedShift e.nearest 23 (v * w) ≤ 8388608 ∧
    (roundedShift e.nearest 23 (v * w) = 8388608 ↔ v = -8388608 ∧ w = -8388608) := by
  obtain ⟨least, most⟩ := e.roundedShift_bounds (v * w)
  have half_le : 0 ≤ e.half ∧ e.half ≤ 4194304 := by
    rw [half]
    split_ifs <;> decide
  by_cases h : v = -8388608 ∧ w = -8388608
  · obtain ⟨rfl, rfl⟩ := h
    omega
  · have := fraction_mul_bounds v_low v_high w_low w_high h
    simp only [h, iff_false]
    omega

/-- Settles O16: SQUARE is the rounded product of a value with itself, which is not negative. -/
theorem incrementsOfTheModes : Obligations.IncrementsOfTheModes := by
  intro e v w v_low v_high w_low w_high
  refine ⟨fun mode => ?_, fun mode => ?_, fun mode => ?_⟩
  · simp [ChannelEntry.increment, ChannelEntry.modeOf, mode]
  · obtain ⟨least, most⟩ := e.roundedShift_bounds (v * v)
    obtain ⟨-, high, limit⟩ := e.roundedProduct_spec v_low v_high v_low v_high
    have square_nonneg : 0 ≤ v * v := mul_self_nonneg v
    have half_nonneg : 0 ≤ e.half := by
      rw [ChannelEntry.half]
      split_ifs <;> decide
    have computed (partner : Option Int) : e.increment v partner = some (roundedShift e.nearest 23 (v * v)) := by
      simp [ChannelEntry.increment, ChannelEntry.modeOf, mode]
    exact ⟨_, computed _, computed _, least, most, by omega, high, limit.trans (and_self_iff)⟩
  · obtain ⟨least, most⟩ := e.roundedShift_bounds (v * w)
    have computed (partner : Option Int) : e.increment v partner = partner.map fun w => roundedShift e.nearest 23 (v * w) := by
      simp [ChannelEntry.increment, ChannelEntry.modeOf, mode]
    exact ⟨computed none, _, computed (some w), least, most, e.roundedProduct_spec v_low v_high w_low w_high⟩

/-! ### One accumulation -/

/-- The IDLE engine after a take: the head of the queue, where there is one (R15, R18). -/
theorem MainDomain.take_of_idle {m : MainDomain} (idle : m.engine = none) :
    m.take = { m with engine := m.samples.head?, samples := m.samples.tail } := by
  obtain ⟨link, group, samples, engine, latest, image, snapItem, timeLoad, win, cmd⟩ := m
  simp only at idle
  subst idle
  cases samples <;> rfl

theorem partner_ne (c : Fin 6) : partner c ≠ c := by revert c; decide

/-- A fresh partner value: that of an entry with the tag (R28). -/
def Latest.valueFor (l : Option Latest) (tag : Tag) : Option Int :=
  match l with
  | some l => if l.tag = tag then some l.value.toInt else none
  | none => none

/-- The partner value that an accumulation uses is the one from before it: a channel is not its own partner (R28). -/
theorem freshPartner_set (latest : Vector (Option Latest) 6) (x : Sample) (l : Option Latest) :
    freshPartner (latest.set x.channel l) x (partner x.channel) = Latest.valueFor latest[partner x.channel] x.tag := by
  have kept : (latest.set x.channel l)[partner x.channel] = latest[partner x.channel] :=
    Vector.getElem_set_ne _ _ fun h => partner_ne x.channel (Fin.ext h.symm)
  rw [freshPartner, kept]
  cases latest[partner x.channel] <;> rfl

theorem ChanState.raises_iff (c c' : ChanState) :
    c.raises c' = true ↔ (c'.inSat = true ∧ c.inSat = false) ∨ (c'.accOvf = true ∧ c.accOvf = false) := by
  simp [ChanState.raises]

/-- The per-channel state that one accumulation leaves in the tagged bank (R30 to R34). -/
def State.accumulatedChan (s : State) (x : Sample) (c : ChanState) : ChanState :=
  c.add (s.settings x).wraps ((s.settings x).saturates x.value) ((s.settings x).increment ((s.settings x).scaled x.value)
    (Latest.valueFor s.main.latest[partner x.channel] x.tag))

/-- The latest-value table that one accumulation leaves (R24). -/
def State.latestScaled (s : State) (x : Sample) : Vector (Option Latest) 6 :=
  s.main.latest.set x.channel (some ⟨BitVec.ofInt 24 ((s.settings x).scaled x.value), x.tag⟩)

/-- One accumulation as one update (R19, R24, R34). -/
theorem State.accumulate_eq (s : State) (x : Sample) {c : ChanState} (main : s.monitor.supply = .main)
    (chan : (s.bank x.tag).chans[x.channel] = some c) :
    s.accumulate x = { s.setBank x.tag { s.bank x.tag with
        chans := (s.bank x.tag).chans.set x.channel (some (s.accumulatedChan x c)) } with
      main := { s.main with latest := s.latestScaled x }
      events := if c.raises (s.accumulatedChan x c) then s.events.set .main .accOvf else s.events } := by
  have partnerValue := freshPartner_set s.main.latest x (some ⟨BitVec.ofInt 24 ((s.settings x).scaled x.value), x.tag⟩)
  unfold State.accumulate
  simp only [chan, partnerValue]
  change State.setCauseIf _ (c.raises (s.accumulatedChan x c)) .accOvf = _
  cases c.raises (s.accumulatedChan x c) <;> cases tag : x.tag <;>
    simp [State.setCauseIf, State.setCause, State.modifyBank, State.setBank, State.bank, State.accumulatedChan, State.latestScaled, main, tag]

/-- The device at the end of one accumulation, before the drain check (R18, R19). -/
def State.accumulated (s : State) (x : Sample) (c : ChanState) : State :=
  { s.setBank x.tag { s.bank x.tag with
      chans := (s.bank x.tag).chans.set x.channel (some (s.accumulatedChan x c)) } with
    main := { s.main with latest := s.latestScaled x, engine := s.main.samples.head?, samples := s.main.samples.tail }
    events := if c.raises (s.accumulatedChan x c) then s.events.set .main .accOvf else s.events }

theorem State.accumulated_openTag (s : State) (x : Sample) (c : ChanState) : (s.accumulated x c).openTag = s.openTag := by
  cases tag : x.tag <;> simp [State.accumulated, State.openTag, State.setBank, State.bank, tag]

/-- The engine's entry completed: the accumulation, the take of the next entry, the drain check. -/
theorem State.completeAccumulation_eq (s : State) (x : Sample) {c : ChanState} (main : s.monitor.supply = .main)
    (chan : (s.bank x.tag).chans[x.channel] = some c) : s.completeAccumulation x = (s.accumulated x c).drainCheck := by
  rw [State.completeAccumulation, s.accumulate_eq x main chan, MainDomain.take_of_idle rfl, State.accumulated]

/-- The samples in flight after a take are those of the queue before it. -/
theorem inFlight_taken (xs : List Sample) : xs.head?.toList ++ xs.tail = xs := by cases xs <;> rfl

/-- Settles O14: the accumulation by its definition, the engine by its take, the drain by its check. -/
theorem accumulationIsOneEvent : Obligations.AccumulationIsOneEvent := by
  intro s x c main engine chan
  dsimp only
  have event : exec .accumulation s = .next (s.completeAccumulation x) := by
    simp [exec, execAccumulation, engine, State.inMain_of main]
  have bank (g : Tag) : (s.accumulated x c).drainCheck.bank g = (s.accumulated x c).bank g :=
    State.bank_eq_of _ _ (by simp) (by simp) g
  rw [s.completeAccumulation_eq x main chan] at event
  refine ⟨_, event, ?_, ?_, ?_, ?_, ?_, ?_, ?_⟩
  · rw [bank]
    exact s.bank_setBank x.tag _
  · rw [bank]
    exact s.bank_setBank_other x.tag _
  · rw [State.drainCheck_main]
    rfl
  · rw [State.drainCheck_events]
    exact if_congr (c.raises_iff (s.accumulatedChan x c)) rfl rfl
  · have inFlight : (s.accumulated x c).main.inFlight = s.main.samples := inFlight_taken s.main.samples
    have ic : (s.accumulated x c).ic = s.ic := s.setBank_ic x.tag _
    rw [State.drainCheck_ic, s.accumulated_openTag, inFlight, ic]
  · rw [State.drainCheck_cfg]
    exact s.setBank_cfg x.tag _
  · simp [State.sameElsewhere, State.accumulated]

end Sys2Proof.Machine
end

section
/-! SUPPORT. The commands of the command unit in their slot (R174): their owners' effects in the words of the statements. -/

namespace Sys2Proof.Machine

/-! ### Rows and owners -/

/-- The row of a command of Table 59 is its command row (R174). -/
theorem exec_row (c : Cmd) (arg : Byte) (s : State) : exec (c.row arg) s = .next (s.commandRow c arg) := by
  cases c
  case configCommit =>
    by_cases now : arg = 1
    · rw [Cmd.row, if_pos now, now]
      rfl
    · rw [Cmd.row, if_neg now]
      exact congrArg Host.Outcome.next (if_neg now)
  all_goals rfl

/-- A command of the slot proceeds at once with no close in progress (R174). -/
theorem exec_row_ready {s : State} {c : Cmd} (ready : s.commandReady c.code) (arg : Byte) :
    exec (c.row arg) s = .next ((s.slotTaken 6).owner c arg) := by
  rw [exec_row, State.commandRow_ready ready]

/-- A command that does not wait proceeds in IDLE during a close as at any other time (R174). -/
theorem exec_row_immediate {s : State} {c : Cmd} (slot : s.commandSlot c.code) (idle : s.main.cmd.waiting = none) {arg : Byte}
    (immediate : c.waits arg = false) : exec (c.row arg) s = .next ((s.slotTaken 6).owner c arg) := by
  rw [exec_row, State.commandRow_immediate slot idle arg immediate]

/-- The trigger of a close leaves the supply monitor, so the command that made it completes in MAIN. -/
theorem State.complete_triggerClose {s : State} (main : s.monitor.supply = .main) (k : Trigger) (t : DateTime) (v : Bool) (code : Byte)
    (r : CmdResult) : (s.triggerClose k t v).complete code r = (s.triggerClose k t v).finished code r :=
  State.complete_eq (by rwa [State.triggerClose_monitor]) code r

/-! ### TIME_LOAD and TIME_TRIM -/

/-- Settles O24: TIME_LOAD is its owner, whose close is the trigger's. -/
theorem timeLoadSetsTheCalendar : Obligations.TimeLoadSetsTheCalendar := by
  intro s arg ready
  have main : s.monitor.supply = .main := ready.1.1.1
  have row : exec (.timeLoad arg) s = .next (s.slotTaken 6).doTimeLoad := exec_row_ready (c := .timeLoad) ready arg
  have valid_iff := s.main.timeLoad.time.valid_iff
  refine ⟨fun real => ?_, fun unreal => ?_⟩
  · have proceeds : (s.slotTaken 6).doTimeLoad = (State.triggerClose { s.slotTaken 6 with
        cal := ⟨s.main.timeLoad.time, dayOfWeek s.main.timeLoad.time, 0, true⟩ } .timeLoad s.main.timeLoad.time true).complete 1 .ok :=
      if_pos (valid_iff.mpr real)
    rw [proceeds, State.complete_triggerClose (by exact main)] at row
    exact ⟨_, row, State.triggerClose_spec _ _ _ _⟩
  · have refused : (s.slotTaken 6).doTimeLoad = (s.slotTaken 6).complete 1 .badArg := if_neg (mt valid_iff.mp unreal)
    rw [row, refused, State.complete_eq (by exact main)]

/-- The arguments that R53 accepts. -/
theorem trimAccepted_iff (arg : Byte) : trimAccepted arg = true ↔ arg.toInt ≠ 0 ∧ -30 ≤ arg.toInt ∧ arg.toInt ≤ 30 := by
  simp [trimAccepted, and_assoc]

theorem State.trimCrosses_iff (s : State) (n : Int) : s.trimCrosses n = true ↔
    0 < n ∧ (endSeconds s.openBank.endBoundary : Int) ≤ s.cal.time.seconds + n ∨
      n < 0 ∧ (s.cal.time.seconds : Int) + n < s.openBank.start.seconds := by
  simp [State.trimCrosses]

/-- Every end boundary lies at most one second after the last second (R48). -/
theorem endSeconds_le {e : DateTime} (valid : e.valid = true) : endSeconds e ≤ 3155760000 := by
  rw [endSeconds, seconds_last]
  split_ifs
  · decide
  · exact (seconds_le_last valid).trans (by decide)

/-- A TIME_TRIM that crosses nothing stays within the range of the calendar (R54). -/
theorem seconds_trimmed {s : State} {n : Int} (time : s.cal.time.valid = true) (boundary : s.openBank.endBoundary.valid = true)
    (inside : s.trimCrosses n = false) : ((shiftSeconds s.cal.time n).seconds : Int) = s.cal.time.seconds + n := by
  have ends := endSeconds_le boundary
  have now := seconds_le_last time
  have inside : ¬ _ := mt (s.trimCrosses_iff n).mpr (Bool.eq_false_iff.mp inside)
  exact seconds_shiftSeconds time (by omega) (by omega)

/-- Settles O25: the trimmed time lies between the opening time and the end boundary, so within the calendar's range. -/
theorem timeTrimMovesTheTime : Obligations.TimeTrimMovesTheTime := by
  intro s arg ready time boundary
  have main : s.monitor.supply = .main := ready.1.1.1
  have row : exec (.timeTrim arg) s = .next ((s.slotTaken 6).doTimeTrim arg) := exec_row_ready (c := .timeTrim) ready arg
  have sameOpen : (s.slotTaken 6).trimCrosses arg.toInt = s.trimCrosses arg.toInt := rfl
  rw [row]
  refine ⟨fun refused => ?_, fun h0 h1 h2 crosses => ?_, fun h0 h1 h2 inside => ?_⟩
  · have rejected : trimAccepted arg = false := Bool.eq_false_iff.mpr fun h => by
      have := (trimAccepted_iff arg).mp h
      omega
    rw [State.doTimeTrim, if_pos rejected, State.complete_eq (by exact main)]
    rfl
  · have accepted : trimAccepted arg ≠ false := by simpa using (trimAccepted_iff arg).mpr ⟨h0, h1, h2⟩
    rw [State.doTimeTrim, if_neg accepted, sameOpen, if_pos ((s.trimCrosses_iff _).mpr crosses), State.complete_eq (by exact main)]
    rfl
  · have accepted : trimAccepted arg ≠ false := by simpa using (trimAccepted_iff arg).mpr ⟨h0, h1, h2⟩
    have inside : ¬ s.trimCrosses arg.toInt = true := mt (s.trimCrosses_iff _).mp inside
    refine ⟨shiftSeconds s.cal.time arg.toInt, shiftSeconds_valid time _,
      seconds_trimmed time boundary (Bool.eq_false_iff.mpr inside), ?_⟩
    rw [State.doTimeTrim, if_neg accepted, sameOpen, if_neg inside, State.complete_eq (by exact main)]
    rfl

/-! ### FORCE_CLOSE and CONFIG_COMMIT -/

theorem ConfigSet.passes_of_firstFault {c : ConfigSet} (h : c.firstFault = none) : c.passes = true := by
  rw [ConfigSet.passes, h]
  rfl

theorem ConfigSet.not_passes_of_firstFault {c : ConfigSet} {fault : FaultTable × Nat} (h : c.firstFault = some fault) :
    c.passes = false := by
  rw [ConfigSet.passes, h]
  rfl

/-- The validation of a set that passes leaves the config fault NONE (R136). -/
theorem State.validated_of_passes {s : State} (h : s.cfg.staged.firstFault = none) :
    s.validated = { s with cfg := { s.cfg with fault := (.none, 0) } } := by
  rw [State.validated, h]
  rfl

/-- The validation of a set that fails writes its fault into the config fault field (R136). -/
theorem State.validated_of_fails {s : State} {fault : FaultTable × Nat} (h : s.cfg.staged.firstFault = some fault) :
    s.validated = { s with cfg := { s.cfg with fault := fault } } := by
  rw [State.validated, h]
  rfl

/-- Settles O26: both commands are the trigger of a close, NOW after its validation. -/
theorem forceCloseAndCommitNowClose : Obligations.ForceCloseAndCommitNowClose := by
  intro s
  refine ⟨fun arg ready => ?_, fun ready => ?_⟩
  · have row : exec (.forceClose arg) s = .next (s.slotTaken 6).doForceClose := exec_row_ready (c := .forceClose) ready arg
    rw [State.doForceClose, State.complete_triggerClose (by exact ready.1.1.1)] at row
    exact ⟨_, row, State.triggerClose_spec _ _ _ _⟩
  · have main : s.monitor.supply = .main := ready.1.1.1
    have row : exec .configCommitNow s = .next (s.slotTaken 6).doCommitNow := exec_row_ready (c := .configCommit) ready 1
    refine ⟨fun pending => ?_, fun free passes => ?_, fun fault free fails => ?_⟩
    · rw [State.doCommitNow, if_pos (by exact pending), State.complete_triggerClose (by exact main)] at row
      exact ⟨_, row, State.triggerClose_spec _ _ _ _⟩
    · rw [State.doCommitNow, if_neg (by exact Bool.eq_false_iff.mp free),
        if_pos (by exact ConfigSet.passes_of_firstFault passes), State.complete_triggerClose (by exact main),
        State.validated_of_passes (by exact passes)] at row
      exact ⟨_, row, State.triggerClose_spec _ _ _ _⟩
    · rw [row, State.doCommitNow, if_neg (by exact Bool.eq_false_iff.mp free),
        if_neg (by exact Bool.eq_false_iff.mp (ConfigSet.not_passes_of_firstFault fails)), State.complete_eq (by exact main),
        State.validated_of_fails (by exact fails)]
      rfl

/-- Settles O28: AT_NEXT by its owner; an argument above 1 is refused before it. -/
theorem commitAtNextValidates : Obligations.CommitAtNextValidates := by
  intro s arg slot idle
  have main : s.monitor.supply = .main := slot.1.1
  have row (arg : Byte) (h : arg ≠ 1) : exec (.configCommitAtNext arg) s = .next ((s.slotTaken 6).doConfigCommit arg) := by
    have immediate : Cmd.configCommit.waits arg = false := by simpa [Cmd.waits] using h
    have := exec_row_immediate (c := .configCommit) slot idle immediate
    rwa [Cmd.row, if_neg h] at this
  have atNext : exec (.configCommitAtNext 0) s = .next (s.slotTaken 6).doCommitAtNext := row 0 (by decide)
  refine ⟨fun zero pending => ?_, fun zero free passes => ?_, fun fault zero free fails => ?_, fun above => ?_⟩
  · rw [zero, atNext, State.doCommitAtNext, if_pos (by exact pending), State.complete_eq (by exact main)]
    rfl
  · rw [zero, atNext, State.doCommitAtNext, if_neg (by exact Bool.eq_false_iff.mp free),
      if_pos (by exact ConfigSet.passes_of_firstFault passes), State.complete_eq (by exact main),
      State.validated_of_passes (by exact passes)]
    rfl
  · rw [zero, atNext, State.doCommitAtNext, if_neg (by exact Bool.eq_false_iff.mp free),
      if_neg (by exact Bool.eq_false_iff.mp (ConfigSet.not_passes_of_firstFault fails)), State.complete_eq (by exact main),
      State.validated_of_fails (by exact fails)]
    rfl
  · have not_zero : arg ≠ 0 := fun h => by simp [h] at above
    have not_one : arg ≠ 1 := fun h => by simp [h] at above
    rw [row arg not_one, State.doConfigCommit, if_neg not_zero, if_neg not_one, State.complete_eq (by exact main)]
    rfl

/-- Settles O29: each owner by whether a commit is pending. -/
theorem cancelAndFetch : Obligations.CancelAndFetch := by
  intro s arg idle
  refine ⟨fun slot => ?_, fun slot => ?_⟩
  · have main : s.monitor.supply = .main := slot.1.1
    have row : exec (.configCancel arg) s = .next (s.slotTaken 6).doConfigCancel :=
      exec_row_immediate (c := .configCancel) slot idle rfl
    rw [row, State.doConfigCancel, State.complete_eq (by exact main), State.complete_eq (by exact main)]
    rfl
  · have main : s.monitor.supply = .main := slot.1.1
    have row : exec (.configFetch arg) s = .next (s.slotTaken 6).doConfigFetch :=
      exec_row_immediate (c := .configFetch) slot idle rfl
    rw [row, State.doConfigFetch, State.complete_eq (by exact main), State.complete_eq (by exact main)]
    rfl

/-! ### Tables and records -/

theorem TotalsTable.zero_get (c : Fin 6) (t : Fin 4) : TotalsTable.zero[c][t] = ⟨0, false⟩ := by
  simp [TotalsTable.zero]

theorem DemandTable.absent_get (c : Fin 6) (t : Fin 4) : DemandTable.absent[c][t] = none := by
  simp [DemandTable.absent]

/-- Settles O27: each command is its owner's one update. -/
theorem tableCommands : Obligations.TableCommands := by
  intro s arg
  refine ⟨fun ready => ⟨.zero, TotalsTable.zero_get, ?_⟩, fun ready => ⟨.absent, DemandTable.absent_get, ?_⟩,
    fun ready => ⟨s.snapshotImage, rfl, rfl, rfl, rfl, rfl, rfl, fun built => if_pos built, ?_⟩⟩
  · have row : exec (.totalsClear arg) s = .next (s.slotTaken 6).doTotalsClear := exec_row_ready (c := .totalsClear) ready arg
    rw [row, State.doTotalsClear, State.complete_eq (by exact ready.1.1.1)]
    rfl
  · have row : exec (.demandReset arg) s = .next (s.slotTaken 6).doDemandReset := exec_row_ready (c := .demandReset) ready arg
    rw [row, State.doDemandReset, State.complete_eq (by exact ready.1.1.1)]
    rfl
  · have row : exec (.snapshot arg) s = .next (s.slotTaken 6).doSnapshot := exec_row_ready (c := .snapshot) ready arg
    rw [row, State.doSnapshot, State.complete_eq (by exact ready.1.1.1)]
    rfl

theorem RecordQueue.dropHead_cons {q : RecordQueue} {n : Nat} {rest : List Nat} (lens : q.lens = n :: rest) :
    q.dropHead = { q with head := (q.head + n) % 2048, count := q.count - 1, used := q.used - n, lens := rest } := by
  simp [RecordQueue.dropHead, lens]

/-- Settles O30: each command by its owner. -/
theorem recordCommands : Obligations.RecordCommands := by
  intro s arg idle
  refine ⟨fun slot => ?_, fun slot => ?_, fun slot => ?_⟩
  · have row : exec (.recordOpen arg) s = .next (s.slotTaken 6).doRecordOpen :=
      exec_row_immediate (c := .recordOpen) slot idle rfl
    rw [row]
    refine ⟨fun empty => ?_, fun holds => ?_⟩
    · rw [State.doRecordOpen, if_pos (by exact empty), State.complete_eq (by exact slot.1.1)]
      rfl
    · have present : ¬ (s.queue.hold = false ∧ s.queue.count = 0) := by
        rintro ⟨free, none⟩
        simp [free, none] at holds
      rw [State.doRecordOpen, if_neg (by exact present), State.complete_eq (by exact slot.1.1)]
      rfl
  · have row : exec (.recordRelease arg) s = .next (s.slotTaken 6).doRecordRelease :=
      exec_row_immediate (c := .recordRelease) slot idle rfl
    rw [row]
    refine ⟨fun free => ?_, fun n rest hold lens => ?_⟩
    · rw [State.doRecordRelease, if_neg (by exact Bool.eq_false_iff.mp free), State.complete_eq (by exact slot.1.1)]
      rfl
    · rw [State.doRecordRelease, if_pos (by exact hold), State.complete_eq (by exact slot.1.1),
        RecordQueue.dropHead_cons (by exact lens)]
      rfl
  · have row : exec (.queueFlush arg) s = .next (s.slotTaken 6).doQueueFlush :=
      exec_row_immediate (c := .queueFlush) slot idle rfl
    rw [row, State.doQueueFlush, State.complete_eq (by exact slot.1.1)]
    rfl

end Sys2Proof.Machine
end

section
/-! SUPPORT. The command unit's acceptance, its hand-over and SOFT_RESET (R174 to R178), and the discard of the samples (R16). -/

namespace Sys2Proof.Machine

/-! ### Acceptance -/

theorem unknownCode_of {code : Byte} (h : code = 0 ∨ 14 ≤ code.toNat) : unknownCode code = true := by
  rcases h with rfl | h
  · rfl
  · have above : 14#8 ≤ code := h
    simp [unknownCode, above]

/-- A code that names no command, in the slot of COMMAND's second byte (R174). -/
theorem exec_unknownCommand_slot {s : State} {code : Byte} (slot : s.commandSlot code) (unknown : code = 0 ∨ 14 ≤ code.toNat)
    (arg : Byte) : exec (.unknownCommand arg) s = .next ((s.slotTaken 6).takeUnknown code) := by
  refine congrArg Host.Outcome.next ?_
  rw [State.commandByte_slot slot, if_pos (unknownCode_of unknown)]

/-- A command refused with BUSY (R176). -/
theorem State.report_eq {s : State} (main : s.monitor.supply = .main) (code : Byte) (r : CmdResult) :
    s.report code r = { s with
      main := { s.main with cmd := { s.main.cmd with resultCode := code, result := r } }
      events := s.events.set .main .cmdDone } := by
  simp [State.report, State.setCause, main]

/-- A command that waits for a close (Table 59). -/
theorem Cmd.waits_of {c : Cmd} {arg : Byte} (h : c ∈ [Cmd.timeLoad, .forceClose, .snapshot, .totalsClear, .demandReset] ∨
    c = .timeTrim ∧ arg.toInt ≠ 0 ∧ -30 ≤ arg.toInt ∧ arg.toInt ≤ 30 ∨ c = .configCommit ∧ arg = 1) : c.waits arg = true := by
  rcases h with listed | ⟨rfl, range⟩ | ⟨rfl, rfl⟩
  · simp only [List.mem_cons, List.not_mem_nil, or_false] at listed
    rcases listed with rfl | rfl | rfl | rfl | rfl <;> rfl
  · exact (trimAccepted_iff arg).mpr range
  · rfl

/-- A command that waits is kept while a close is in progress (R174). -/
theorem State.takeCommand_waits {s : State} {c : Cmd} {arg : Byte} (idle : s.main.cmd.waiting = none) (busy : s.ic.stage ≠ .idle)
    (waits : c.waits arg = true) :
    s.takeCommand c arg = { s with main := { s.main with cmd := { s.main.cmd with waiting := some (c, arg) } } } := by
  have not_reset : c ≠ .softReset := by
    rintro rfl
    cases waits
  have closing : s.closeBusy = true := bne_iff_ne.mpr busy
  rw [State.takeCommand, if_neg not_reset, if_neg (by simp [idle]), if_pos (by simp [waits, closing])]

/-- A command other than SOFT_RESET is refused while another waits (R176). -/
theorem State.takeCommand_busy {s : State} {c : Cmd} (arg : Byte) (waiting : s.main.cmd.waiting ≠ none) (not_reset : c ≠ .softReset) :
    s.takeCommand c arg = s.report c.code .busy := by
  rw [State.takeCommand, if_neg not_reset, if_pos (Option.isSome_iff_ne_none.mpr waiting)]

/-- Settles O32: each case is one branch of the acceptance. -/
theorem commandUnitTakesWaitsOrRefuses : Obligations.CommandUnitTakesWaitsOrRefuses := by
  intro s c arg code
  refine ⟨fun idle slot unknown => ?_, fun idle slot busy waits => ?_, fun idle slot out => ?_, fun waiting slot not_reset => ?_,
    fun waiting slot unknown => ?_⟩
  · rw [exec_unknownCommand_slot slot unknown, State.takeUnknown, if_neg (by simp [State.slotTaken, idle]),
      State.complete_eq (by exact slot.1.1)]
  · rw [exec_row, State.commandRow_slot slot, State.takeCommand_waits (by exact idle) (by exact busy) (Cmd.waits_of waits)]
    rfl
  · have refused : trimAccepted arg = false := Bool.eq_false_iff.mpr fun h => by
      have := (trimAccepted_iff arg).mp h
      omega
    have row : exec (.timeTrim arg) s = .next ((s.slotTaken 6).doTimeTrim arg) :=
      exec_row_immediate (c := .timeTrim) slot idle refused
    rw [row, State.doTimeTrim, if_pos refused, State.complete_eq (by exact slot.1.1)]
    rfl
  · rw [exec_row, State.commandRow_slot slot, State.takeCommand_busy arg (by exact waiting) not_reset,
      State.report_eq (by exact slot.1.1)]
    rfl
  · rw [exec_unknownCommand_slot slot unknown, State.takeUnknown, if_pos (Option.isSome_iff_ne_none.mpr (by exact waiting)),
      State.report_eq (by exact slot.1.1)]
    rfl

/-! ### The hand-over -/

/-- The state with another window controller and another waiting command. -/
def State.withSlot (s : State) (w : Window) (waiting : Option (Cmd × Byte)) : State :=
  { s with main := { s.main with win := w, cmd := { s.main.cmd with waiting := waiting } } }

theorem State.withSlot_complete (s : State) (w : Window) (k : Option (Cmd × Byte)) (code : Byte) (r : CmdResult) :
    (s.withSlot w k).complete code r = (s.complete code r).withSlot w none := rfl

theorem State.withSlot_drainCheck (s : State) (w : Window) (k : Option (Cmd × Byte)) :
    (s.withSlot w k).drainCheck = s.drainCheck.withSlot w k := by
  rw [State.drainCheck, State.drainCheck, apply_ite (State.withSlot · w k)]
  rfl

theorem State.withSlot_opening (s : State) (w : Window) (k : Option (Cmd × Byte)) (trigger : Trigger) (t : DateTime) (v : Bool)
    (tag : Tag) : (s.withSlot w k).opening trigger t v tag = (s.opening trigger t v tag).withSlot w k := by
  rw [State.opening_eq, State.opening_eq]
  cases tag <;> rfl

/-- The trigger of a close neither reads nor writes the window controller and the waiting command. -/
theorem State.withSlot_triggerClose (s : State) (w : Window) (k : Option (Cmd × Byte)) (trigger : Trigger) (t : DateTime) (v : Bool) :
    (s.withSlot w k).triggerClose trigger t v = (s.triggerClose trigger t v).withSlot w k := by
  have closing : (s.withSlot w k).modifyBank s.openTag (fun b => { b with state := .closing, flags := b.flags.atClose trigger }) =
      (s.modifyBank s.openTag fun b => { b with state := .closing, flags := b.flags.atClose trigger }).withSlot w k := by
    cases s.openTag <;> rfl
  have sameTag : (s.withSlot w k).openTag = s.openTag := rfl
  rw [State.triggerClose, State.triggerClose, sameTag, closing, State.withSlot_opening, ← State.withSlot_drainCheck]
  rfl

/-- The trigger of a close and the completion of its command, on a state with another slot. -/
theorem State.withSlot_closes (s : State) (w : Window) (k : Option (Cmd × Byte)) (trigger : Trigger) (t : DateTime) (v : Bool)
    (code : Byte) (r : CmdResult) :
    ((s.withSlot w k).triggerClose trigger t v).complete code r = ((s.triggerClose trigger t v).complete code r).withSlot w none := by
  rw [State.withSlot_triggerClose, State.withSlot_complete]

/-- A command's effect neither reads nor writes the window controller, and it ends the waiting (R175, R177). -/
theorem State.withSlot_owner (s : State) (w : Window) (k : Option (Cmd × Byte)) {c : Cmd} (not_reset : c ≠ .softReset) (arg : Byte) :
    (s.withSlot w k).owner c arg = (s.owner c arg).withSlot w none := by
  have branch (p : Prop) [Decidable p] (a b : State) :
      (if p then a else b).withSlot w none = if p then a.withSlot w none else b.withSlot w none :=
    apply_ite (State.withSlot · w none) p a b
  cases c with
  | timeLoad =>
    simp only [State.owner, State.doTimeLoad, branch]
    exact if_congr Iff.rfl (State.withSlot_closes
      { s with cal := { s.cal.at s.main.timeLoad.time with phase := 0, valid := true } } w k .timeLoad _ true _ .ok) rfl
  | timeTrim =>
    simp only [State.owner, State.doTimeTrim, branch]
    exact if_congr Iff.rfl rfl (if_congr Iff.rfl rfl rfl)
  | configCommit =>
    simp only [State.owner, State.doConfigCommit, State.doCommitAtNext, State.doCommitNow, branch]
    refine if_congr Iff.rfl rfl (if_congr Iff.rfl ?_ rfl)
    exact if_congr Iff.rfl (s.withSlot_closes w k _ _ _ _ _)
      (if_congr Iff.rfl (s.validated.withSlot_closes w k _ _ _ _ _) rfl)
  | configCancel =>
    simp only [State.owner, State.doConfigCancel, branch]
    rfl
  | configFetch =>
    simp only [State.owner, State.doConfigFetch, branch]
    rfl
  | forceClose => exact s.withSlot_closes w k _ _ _ _ _
  | recordOpen =>
    simp only [State.owner, State.doRecordOpen, branch]
    rfl
  | recordRelease =>
    simp only [State.owner, State.doRecordRelease, branch]
    rfl
  | softReset => exact absurd rfl not_reset
  | snapshot | totalsClear | demandReset | queueFlush => rfl

/-- Settles O33: the owner acts alike on both states, and the slot of the written command is the window controller's alone. -/
theorem handOverIsTheCommandWrittenNow : Obligations.HandOverIsTheCommandWrittenNow := by
  intro s c arg main waiting
  refine ⟨fun idle not_reset => ?_, fun busy => ?_⟩
  · have handed : exec .commandHandover s = .next (s.owner c arg) := by
      have free : s.closeBusy = false := by simp [State.closeBusy, idle]
      simp [exec, execCommandHandover, State.handOver, State.inMain_of main, free, waiting]
    have waits : s = s.withSlot s.main.win (some (c, arg)) := by
      rw [← waiting]
      rfl
    have completed : (s.owner c arg).main.cmd.waiting = none := by
      rw [waits, State.withSlot_owner _ _ _ not_reset]
      rfl
    refine ⟨_, handed, completed, ?_⟩
    have ready : (s.withSlot { s.main.win with txn := .data, reading := false, pointer := 5, latch := some ⟨4, [c.code]⟩ }
        none).commandReady c.code := ⟨⟨⟨main, rfl, rfl, rfl⟩, rfl⟩, rfl, idle⟩
    refine (exec_row_ready ready arg).trans (congrArg Host.Outcome.next ?_)
    refine (s.withSlot_owner { s.main.win with txn := .data, reading := false, pointer := 6, latch := none } none not_reset arg).trans ?_
    rw [State.withSlot, ← completed]
  · have closing : s.closeBusy = true := bne_iff_ne.mpr busy
    simp [exec, execCommandHandover, State.handOver, closing]

/-! ### The discard of the samples, and SOFT_RESET -/

/-- What the discard of the samples does (R16, R82). -/
theorem State.discardSamples_spec (s : State) :
    (∀ g, s.discardSamples.bank g = { s.bank g with
      dropped := satAdd (s.bank g).dropped (s.main.inFlight.countP fun x => x.tag == g) }) ∧
    s.discardSamples.ic = { s.ic with stage := if s.ic.stage = .drain then .build else s.ic.stage } ∧
    s.discardSamples.events =
      (if s.main.inFlight = [] then s.events else s.events.set s.monitor.supply .sampleDrop) ∧
    s.discardSamples.main = { s.main with samples := [], engine := none } := by
  refine ⟨fun g => ?_, ?_, ?_, ?_⟩
  · cases g <;> simp [State.discardSamples, State.bank, State.countDropped]
  · rw [State.discardSamples, State.drainCheck_ic]
    simp [MainDomain.inFlight]
  · rw [State.discardSamples, State.drainCheck_events]
    cases s.main.inFlight <;> rfl
  · simp [State.discardSamples]

/-- The device restarted by SOFT_RESET, before its report (R178). -/
def State.restarted (s : State) : State :=
  { s.discardSamples with
    main := s.discardSamples.main.afterSoftReset
    cfg := { s.cfg with commitPending := false }
    queue := s.queue.endHold }

/-- The command unit that SOFT_RESET leaves (R178). -/
def CommandUnit.afterSoftReset (c : CommandUnit) : CommandUnit :=
  match c.waiting with
  | some (c, _) => ⟨none, c.code, .aborted⟩
  | none => ⟨none, 13, .ok⟩

/-- The main domain that SOFT_RESET leaves, with its report (R178, R50). -/
def MainDomain.resetWith (m : MainDomain) (cmd : CommandUnit) : MainDomain :=
  { MainDomain.start with
    timeLoad := m.timeLoad
    win := m.win.afterSoftReset
    cmd := cmd }

theorem State.doSoftReset_eq (s : State) :
    s.doSoftReset = s.restarted.report s.main.cmd.afterSoftReset.resultCode s.main.cmd.afterSoftReset.result := by
  rw [State.doSoftReset, CommandUnit.afterSoftReset, State.restarted]
  simp only [State.discardSamples_cfg, State.discardSamples_queue]
  cases s.main.cmd.waiting <;> rfl

theorem State.doSoftReset_main (s : State) : s.doSoftReset.main = s.main.resetWith s.main.cmd.afterSoftReset := by
  obtain ⟨-, -, -, main⟩ := s.discardSamples_spec
  rw [State.doSoftReset_eq, State.report_main, State.restarted, main, CommandUnit.afterSoftReset]
  cases s.main.cmd.waiting <;> rfl

theorem State.doSoftReset_events (s : State) : s.doSoftReset.events =
    (if s.main.inFlight = [] then s.events else s.events.set s.monitor.supply .sampleDrop).set s.monitor.supply .cmdDone := by
  obtain ⟨-, -, events, -⟩ := s.discardSamples_spec
  rw [State.doSoftReset_eq, State.report_events, ← events]
  simp [State.restarted]

/-- Settles O31: the discard, the start of the main domain, and the report. -/
theorem softResetRestartsTheMainDomain : Obligations.SoftResetRestartsTheMainDomain := by
  intro s arg slot
  have row : exec (.softReset arg) s = .next (s.slotTaken 6).doSoftReset :=
    (exec_row .softReset arg s).trans (congrArg Host.Outcome.next (State.commandRow_slot slot arg))
  have main := (s.slotTaken 6).doSoftReset_main
  have events := (s.slotTaken 6).doSoftReset_events
  obtain ⟨banks, ic, -, -⟩ := (s.slotTaken 6).discardSamples_spec
  rw [show (s.slotTaken 6).monitor.supply = .main from slot.1.1] at events
  refine ⟨_, row, ?_⟩
  rw [State.doSoftReset_eq] at main events ⊢
  refine ⟨banks, ic, rfl, rfl, main, events, ?_⟩
  simp [State.restarted, State.slotTaken]

end Sys2Proof.Machine
end

section
/-! SUPPORT. The record memory as a ring (R97), the reading of a record (R109, R110) and what an offer does to the queue
(R101 to R104). -/

namespace Sys2Proof.Machine

/-! ### The record memory -/

/-- Settles O39: the ring's words by the laws of the memory, the fault as one write. -/
theorem recordMemoryKeepsWords : Obligations.RecordMemoryKeepsWords := by
  refine ⟨fun m a ws wf short => ⟨RecordMemory.writeWords_wf ws wf a, fun i w at_i => RecordMemory.writeWords_read ws wf short a i w at_i,
    fun b _ outside => RecordMemory.writeWords_read_other ws wf a b outside⟩, fun s address flips powered wf => ?_⟩
  have within : address.toNat % 2048 = address.toNat := Nat.mod_eq_of_lt address.isLt
  have event : exec (.recordMemoryFault address flips) s = .next { s with queue := { s.queue with
      mem := s.queue.mem.write address.toNat (s.queue.mem.read address.toNat ^^^ flips) } } :=
    congrArg Host.Outcome.next (if_neg powered)
  refine ⟨_, event, RecordMemory.write_wf wf _ _, ?_, fun b other => ?_⟩
  · rw [RecordMemory.write_read wf, within, if_pos rfl]
  · rw [RecordMemory.write_read wf, within, if_neg other]

/-! ### A reading -/

/-- The first k words of the record at the head. -/
def RecordQueue.firstWords (q : RecordQueue) (k : Nat) : List Word := (List.range k).map fun i => q.mem.read ((q.head + i) % 2048)

theorem RecordQueue.halfSum_firstWords_succ (q : RecordQueue) (k : Nat) : halfSum (q.firstWords (k + 1)) =
    halfSum (q.firstWords k) + upperHalf (q.mem.read ((q.head + k) % 2048)) + lowerHalf (q.mem.read ((q.head + k) % 2048)) := by
  rw [firstWords, List.range_succ, List.map_append, halfSum_append, List.map_singleton, halfSum_cons, ← firstWords, halfSum]
  simp [halfSum, BitVec.add_assoc]

/-- The held record with its first k words delivered, the last one not among them (R109). -/
def RecordQueue.readTo (q : RecordQueue) (k : Nat) : RecordQueue :=
  { q with readPtr := k, runningSum := halfSum (q.firstWords k) }

/-- A word delivered, its verdict where it is the last (R109, R110). -/
theorem RecordQueue.deliver_readTo (q : RecordQueue) (k : Nat) : (q.readTo k).deliver = { q.readTo (k + 1) with
    readStatus := if k + 1 = q.heldLength then (if halfSum (q.firstWords (k + 1)) = 0 then .checkOk else .checkBad)
      else q.readStatus } := by
  rw [readTo, readTo, halfSum_firstWords_succ]
  rfl

theorem RecordQueue.repeat_deliver {q : RecordQueue} (start : q.readPtr = 0) (sum : q.runningSum = 0) :
    ∀ k, k < q.heldLength → Nat.repeat RecordQueue.deliver k q = q.readTo k
  | 0, _ => by
    obtain ⟨mem, head, tail, count, used, lens, lost, overwrite, threshold, hold, status, ptr, sum'⟩ := q
    simp only at start sum
    subst start sum
    rfl
  | k + 1, inside => by
    rw [Nat.repeat, repeat_deliver start sum k (by omega), deliver_readTo, if_neg (by omega)]
    rfl

/-- Settles O40: induction on the words delivered. -/
theorem verdictAtTheLastWord : Obligations.VerdictAtTheLastWord := by
  intro q n reading start sum head one_le
  have length : q.heldLength = n := by
    rw [RecordQueue.heldLength, List.headD_eq_head?_getD, head]
    rfl
  refine ⟨fun k inside => RecordQueue.repeat_deliver start sum k (by omega), ?_⟩
  obtain ⟨k, rfl⟩ : ∃ k, n = k + 1 := ⟨n - 1, by omega⟩
  rw [Nat.repeat, RecordQueue.repeat_deliver start sum k (by omega), RecordQueue.deliver_readTo, if_pos length.symm]
  rfl

/-! ### An offer -/

theorem RecordQueue.used_eq {q : RecordQueue} (inv : q.inv) : q.used = q.lens.sum := by
  obtain ⟨-, used, -⟩ := inv
  exact used

theorem RecordQueue.used_le {q : RecordQueue} (inv : q.inv) : q.used ≤ 2048 := by
  obtain ⟨-, -, -, limit, -⟩ := inv
  exact limit

/-- The queue with its k oldest records discarded (R103). -/
def RecordQueue.discarded (q : RecordQueue) (k : Nat) : RecordQueue :=
  { q with
    head := (q.head + (q.lens.take k).sum) % 2048
    count := q.count - k
    used := (q.lens.drop k).sum
    lens := q.lens.drop k }

theorem RecordQueue.dropHead_discarded {q : RecordQueue} {n : Nat} {rest : List Nat} (lens : q.lens = n :: rest) (k : Nat) :
    q.dropHead.discarded k = q.discarded (k + 1) := by
  rw [RecordQueue.dropHead_cons lens, discarded, discarded, lens]
  simp only [List.take_succ_cons, List.drop_succ_cons, List.sum_cons, Nat.mod_add_mod]
  congr 1 <;> omega

theorem RecordQueue.dropHead_eq_discarded {q : RecordQueue} {n : Nat} {rest : List Nat} (inv : q.inv) (lens : q.lens = n :: rest) :
    q.dropHead = q.discarded 1 := by
  obtain ⟨-, used, -⟩ := inv
  rw [RecordQueue.dropHead_cons lens, discarded, used, lens]
  simp

theorem RecordQueue.not_fits (q : RecordQueue) {n : Nat} (full : 2048 < q.used + n) (limit : q.used ≤ 2048) : ¬ n ≤ q.free := by
  rw [RecordQueue.free, Config.memoryWords]
  omega

theorem RecordQueue.makeRoom_of_fits {q : RecordQueue} {n : Nat} (fits : n ≤ q.free) : ∀ fuel, q.makeRoom n fuel = q
  | 0 => rfl
  | _ + 1 => if_pos fits

/-- The discards stop as soon as the record fits: just as many of the oldest records as it takes (R103). -/
theorem RecordQueue.makeRoom_spec {n : Nat} (short : n ≤ 2048) : ∀ (fuel : Nat) {q : RecordQueue}, q.inv → q.lens.length ≤ fuel →
    2048 < q.used + n → ∃ k, 1 ≤ k ∧ k ≤ q.lens.length ∧ (q.lens.drop k).sum + n ≤ 2048 ∧ 2048 < (q.lens.drop (k - 1)).sum + n ∧
      q.makeRoom n fuel = q.discarded k := by
  intro fuel
  induction fuel with
  | zero =>
    intro q inv bound full
    have empty : q.lens = [] := List.length_eq_zero_iff.mp (by omega)
    obtain ⟨-, used, -⟩ := inv
    rw [empty, List.sum_nil] at used
    omega
  | succ fuel ih =>
    intro q inv bound full
    have used : q.used = q.lens.sum := RecordQueue.used_eq inv
    have limit : q.used ≤ 2048 := RecordQueue.used_le inv
    cases lens : q.lens with
    | nil =>
      rw [lens, List.sum_nil] at used
      omega
    | cons m rest =>
      have dropped : q.makeRoom n (fuel + 1) = q.dropHead.makeRoom n fuel := if_neg (q.not_fits full limit)
      have usedSum : q.used = m + rest.sum := by rw [used, lens, List.sum_cons]
      have inv' := RecordQueue.dropHead_inv inv
      have lens' : q.dropHead.lens = rest := by rw [RecordQueue.dropHead_cons lens]
      have used' : q.dropHead.used = rest.sum := by rw [← lens']; exact RecordQueue.used_eq inv'
      rw [lens, List.length_cons] at bound
      by_cases fits : rest.sum + n ≤ 2048
      · have room : n ≤ q.dropHead.free := by
          rw [RecordQueue.free, used', Config.memoryWords]
          omega
        refine ⟨1, le_rfl, by simp, fits, ?_, ?_⟩
        · rw [Nat.sub_self, List.drop_zero, List.sum_cons]
          omega
        · rw [dropped, RecordQueue.makeRoom_of_fits room, RecordQueue.dropHead_eq_discarded inv lens]
      · obtain ⟨k, one_le, le_length, fits', overflow, room⟩ := ih inv' (by rw [lens']; omega) (by rw [used']; omega)
        rw [lens'] at le_length fits' overflow
        obtain ⟨j, rfl⟩ : ∃ j, k = j + 1 := ⟨k - 1, by omega⟩
        exact ⟨j + 2, by omega, by rw [List.length_cons]; omega, fits', overflow,
          dropped.trans (room.trans (RecordQueue.dropHead_discarded lens (j + 1)))⟩

/-- Settles O38: the three outcomes of an offer. -/
theorem queueTakesAnOffer : Obligations.QueueTakesAnOffer := by
  intro q ws inv five_le le_23
  have limit : q.used ≤ 2048 := RecordQueue.used_le inv
  have stored_iff := q.outcome_stored_iff (n := ws.length) (by omega)
  refine ⟨fun fits => ?_, fun full kept => ?_, fun full overwrite free => ?_⟩
  · rw [RecordQueue.offer, stored_iff.mpr fits]
    rfl
  · have kept' : ¬ (q.overwrite = true ∧ q.hold = false) := by
      rintro ⟨overwrite, free⟩
      simp [overwrite, free] at kept
    have lost : q.outcome ws.length = .lost := by
      rw [RecordQueue.outcome, if_neg (q.not_fits full limit), if_neg kept']
    rw [RecordQueue.offer, lost]
    rfl
  · have overwrote : q.outcome ws.length = .overwrote := by
      rw [RecordQueue.outcome, if_neg (q.not_fits full limit), if_pos ⟨overwrite, free⟩]
    obtain ⟨k, one_le, le_length, fits, overflow, room⟩ := RecordQueue.makeRoom_spec (by omega) _ inv le_rfl full
    refine ⟨k, one_le, le_length, fits, overflow, ?_⟩
    rw [RecordQueue.offer, overwrote]
    simp only [room]
    rfl

end Sys2Proof.Machine
end

section
/-! SUPPORT. The stages of a close: BUILD (R83), CREDIT (R119, R122), STORE with the completion (R86 to R88, R152). -/

namespace Sys2Proof.Machine

/-! ### BUILD -/

theorem Bank.mem_recordEntries {b : Bank} {e : RecordEntry} : e ∈ b.recordEntries ↔
    ∃ (c : Fin 6) (k : ChanState), b.chans[c] = some k ∧ e = ⟨c, k.accOvf, k.inSat, k.unpaired, k.count, k.acc⟩ := by
  simp only [Bank.recordEntries, List.mem_filterMap, List.mem_finRange, true_and, Option.map_eq_some_iff]
  exact exists_congr fun c => exists_congr fun k => and_congr Iff.rfl eq_comm

/-- The entries of a record stand in ascending channel number (R83). -/
theorem Bank.recordEntries_ascending (b : Bank) : b.recordEntries.Pairwise (fun x y => x.channel < y.channel) := by
  refine List.pairwise_filterMap.mpr ((List.pairwise_lt_finRange 6).imp fun {i j} lt x hx y hy => ?_)
  obtain ⟨_, -, rfl⟩ := Option.map_eq_some_iff.mp hx
  obtain ⟨_, -, rfl⟩ := Option.map_eq_some_iff.mp hy
  exact lt

/-- Settles O34: the record is the closing bank's, sealed. -/
theorem buildAssemblesTheRecord : Obligations.BuildAssemblesTheRecord := by
  intro s stage
  have event : exec .build s = .next s.buildStage := congrArg Host.Outcome.next (if_pos stage)
  refine ⟨s.closingRecord, event, rfl, rfl, rfl, rfl, rfl, rfl, rfl, rfl, rfl, rfl, rfl, rfl, Record.halfSum_words_sealed _,
    Bank.recordEntries_ascending _, fun c => ⟨fun k state => Bank.mem_recordEntries.mpr ⟨c, k, state, rfl⟩, fun e mem channel => ?_⟩⟩
  obtain ⟨d, k, state, rfl⟩ := Bank.mem_recordEntries.mp mem
  rw [← channel]
  exact state

/-! ### CREDIT -/

/-- A total limited to 64 bits (R119). -/
theorem Total.credit_value (t : Total) (value : BitVec 48) : (t.credit value).value.toInt =
    max (-9223372036854775808) (min (t.value.toInt + value.toInt) 9223372036854775807) := by
  obtain ⟨low, high⟩ := (fitsSigned_iff 64 _).mp (fitsSigned_clampSigned 64 (t.value.toInt + value.toInt))
  exact BitVec.toInt_ofInt_eq_self (by decide) low (Int.lt_of_le_sub_one high)

theorem Total.limits_eq (t : Total) (value : BitVec 48) : t.limits value =
    decide (t.value.toInt + value.toInt < -9223372036854775808 ∨ 9223372036854775807 < t.value.toInt + value.toInt) :=
  not_fitsSigned_eq 64 _

/-- An element of a table set at a channel and a tariff. -/
theorem table_set_get {α : Type} (v : Vector (Vector α 4) 6) (c d : Fin 6) (t k : Fin 4) (x : α) :
    (v.set c (v[c].set t x))[d][k] = if d = c ∧ k = t then x else v[d][k] := by
  by_cases hd : d = c
  · subst hd
    by_cases hk : k = t
    · subst hk
      simp
    · simp [hk, Fin.val_ne_of_ne (Ne.symm hk)]
  · simp [hd, Fin.val_ne_of_ne (Ne.symm hd)]

/-- The total of an entry's channel and the record's tariff takes the entry; the others stay (R119). -/
theorem State.creditEntry_totals (s : State) (r : Record) (e : RecordEntry) (c : Fin 6) (k : Fin 4) :
    (s.creditEntry r e).totals[c][k] =
      if c = e.channel ∧ k = r.tariff then s.totals[c][k].credit e.value else s.totals[c][k] := by
  have table : (s.creditEntry r e).totals =
      s.totals.set e.channel (s.totals[e.channel].set r.tariff (s.totals[e.channel][r.tariff].credit e.value)) := by
    simp only [State.creditEntry]
    split <;> simp
  rw [table, table_set_get]
  split_ifs with here
  · obtain ⟨rfl, rfl⟩ := here
    rfl
  · rfl

/-- The demand entry of an entry's channel and the record's tariff takes the offer of a record that makes one (R122). -/
theorem State.creditEntry_demand (s : State) (r : Record) (e : RecordEntry) (c : Fin 6) (k : Fin 4) :
    (s.creditEntry r e).demand[c][k] = if (c = e.channel ∧ k = r.tariff) ∧ ¬ (r.flags.short = true ∨ r.flags.power = true) then
      updateDemand s.demand[c][k] r.stamp e else s.demand[c][k] := by
  by_cases without : r.flags.short = true ∨ r.flags.power = true
  · have table : (s.creditEntry r e).demand = s.demand := by
      simp [State.creditEntry, without]
    simp [table, without]
  · have table : (s.creditEntry r e).demand = s.demand.set e.channel
        (s.demand[e.channel].set r.tariff (updateDemand s.demand[e.channel][r.tariff] r.stamp e)) := by
      simp [State.creditEntry, without]
    rw [table, table_set_get]
    simp only [without, not_false_eq_true, and_true]
    split_ifs with here
    · obtain ⟨rfl, rfl⟩ := here
      rfl
    · rfl

theorem State.creditEntry_events (s : State) (r : Record) (e : RecordEntry) : (s.creditEntry r e).events =
    if s.totals[e.channel][r.tariff].limits e.value then s.events.set s.monitor.supply .accOvf else s.events := by
  simp only [State.creditEntry]
  cases s.totals[e.channel][r.tariff].limits e.value <;> split <;> rfl

/-- The entries of a record credited one after the other (R85). -/
def State.creditEntries (s : State) (r : Record) (es : List RecordEntry) : State := es.foldl (fun s e => s.creditEntry r e) s

theorem State.creditEntries_cons (s : State) (r : Record) (e : RecordEntry) (es : List RecordEntry) :
    s.creditEntries r (e :: es) = (s.creditEntry r e).creditEntries r es := rfl

/-- What no entry of the record addresses stays. -/
theorem State.creditEntries_other (r : Record) {c : Fin 6} {k : Fin 4} : ∀ (es : List RecordEntry) (s : State),
    (k ≠ r.tariff ∨ ∀ e ∈ es, e.channel ≠ c) →
    (s.creditEntries r es).totals[c][k] = s.totals[c][k] ∧ (s.creditEntries r es).demand[c][k] = s.demand[c][k]
  | [], _, _ => ⟨rfl, rfl⟩
  | e :: es, s, other => by
    have elsewhere : ¬ (c = e.channel ∧ k = r.tariff) := by
      rintro ⟨channel, tariff⟩
      rcases other with h | h
      · exact h tariff
      · exact h e List.mem_cons_self channel.symm
    have rest := creditEntries_other r es (s.creditEntry r e)
      (other.imp_right fun h d mem => h d (List.mem_cons_of_mem e mem))
    rw [s.creditEntry_totals, if_neg elsewhere, s.creditEntry_demand, if_neg (fun h => elsewhere h.1)] at rest
    exact rest

/-- Each entry of a record with ascending channels is credited to what was there before CREDIT (R85). -/
theorem State.creditEntries_mem (r : Record) : ∀ (es : List RecordEntry) (s : State), es.Pairwise (fun x y => x.channel < y.channel) →
    ∀ e ∈ es, (s.creditEntries r es).totals[e.channel][r.tariff] = s.totals[e.channel][r.tariff].credit e.value ∧
      (s.creditEntries r es).demand[e.channel][r.tariff] =
        if r.flags.short = true ∨ r.flags.power = true then s.demand[e.channel][r.tariff]
        else updateDemand s.demand[e.channel][r.tariff] r.stamp e
  | [], _, _ => by simp
  | d :: es, s, ascending => by
    obtain ⟨first, ascending⟩ := List.pairwise_cons.mp ascending
    intro e mem
    rw [State.creditEntries_cons]
    rcases List.mem_cons.mp mem with rfl | mem
    · obtain ⟨totals, demand⟩ := creditEntries_other r (c := e.channel) (k := r.tariff) es (s.creditEntry r e)
        (Or.inr fun y hy => (Fin.ne_of_lt (first y hy)).symm)
      rw [totals, demand, s.creditEntry_totals, s.creditEntry_demand, if_pos ⟨rfl, rfl⟩]
      refine ⟨rfl, ?_⟩
      simp only [and_self, true_and]
      exact ite_not _ _ _
    · obtain ⟨totals, demand⟩ := creditEntries_mem r es (s.creditEntry r d) ascending e mem
      have elsewhere : ¬ (e.channel = d.channel ∧ r.tariff = r.tariff) := fun h => Fin.ne_of_lt (first e mem) h.1.symm
      rw [s.creditEntry_totals, if_neg elsewhere] at totals
      have kept := (s.creditEntry_demand r d e.channel r.tariff).trans (if_neg fun h => elsewhere h.1)
      rw [kept] at demand
      exact ⟨totals, demand⟩

/-- A setting of a cause twice is one setting (R156). -/
theorem EventUnit.set_ite_set (e : EventUnit) (x : SupplyState) (c : Cause) (p q : Prop) [Decidable p] [Decidable q] :
    (if q then (if p then e.set x c else e).set x c else if p then e.set x c else e) = if p ∨ q then e.set x c else e := by
  by_cases hp : p <;> by_cases hq : q <;> simp [hp, hq, EventUnit.set_set]

/-- ACC_OVF is caused when an entry limits its total (R119). -/
theorem State.creditEntries_events (r : Record) : ∀ (es : List RecordEntry) (s : State), es.Pairwise (fun x y => x.channel < y.channel) →
    (s.creditEntries r es).events = if ∃ e ∈ es, s.totals[e.channel][r.tariff].limits e.value = true then
      s.events.set s.monitor.supply .accOvf else s.events
  | [], _, _ => by simp [creditEntries]
  | d :: es, s, ascending => by
    obtain ⟨first, ascending⟩ := List.pairwise_cons.mp ascending
    have rest := creditEntries_events r es (s.creditEntry r d) ascending
    have kept : (∃ e ∈ es, (s.creditEntry r d).totals[e.channel][r.tariff].limits e.value = true) ↔
        ∃ e ∈ es, s.totals[e.channel][r.tariff].limits e.value = true := by
      refine exists_congr fun e => and_congr_right fun mem => ?_
      rw [s.creditEntry_totals, if_neg fun h => Fin.ne_of_lt (first e mem) h.1.symm]
    simp only [kept, State.creditEntry_monitor, s.creditEntry_events] at rest
    simp only [State.creditEntries_cons, rest, EventUnit.set_ite_set, List.exists_mem_cons_iff]

theorem State.creditEntries_frame (s : State) (r : Record) (es : List RecordEntry) :
    (s.creditEntries r es).pending = s.pending ∧ (s.creditEntries r es).freeCount = s.freeCount ∧
    (s.creditEntries r es).oscRunning = s.oscRunning ∧ (s.creditEntries r es).csnHigh = s.csnHigh := by
  induction es generalizing s with
  | nil => exact ⟨rfl, rfl, rfl, rfl⟩
  | cons e es ih => simpa [State.creditEntries_cons] using ih (s.creditEntry r e)

/-- Settles O36: the credits by induction on the record's entries, whose channels are distinct. -/
theorem creditStage : Obligations.CreditStage := by
  intro s r stage built ascending
  have event : exec .credit s = .next s.creditStage := congrArg Host.Outcome.next (if_pos stage)
  have credited : s.creditStage = { s.creditEntries r r.entries with ic := { (s.creditEntries r r.entries).ic with stage := .store } } := by
    simp only [State.creditStage, built]
    rfl
  rw [credited] at event
  obtain ⟨ic, queue, cfg, cal, bankA, bankB, main, monitor⟩ := s.creditRecord_frame r
  refine ⟨_, event, by exact congrArg (fun i : IntervalController => { i with stage := .store }) ic, fun e mem => ?_,
    fun c k other => State.creditEntries_other r r.entries s other, ?_, bankA, bankB, cfg, queue, main, cal, monitor, ?_⟩
  · obtain ⟨totals, demand⟩ := State.creditEntries_mem r r.entries s ascending e mem
    simp only [totals, demand]
    refine ⟨Total.credit_value _ _, congrArg (_ || ·) (not_fitsSigned_eq 64 _), ?_⟩
    cases s.demand[e.channel][r.tariff] <;> rfl
  · simp only [State.creditEntries_events r r.entries s ascending, Total.limits_eq, decide_eq_true_eq]
  · exact s.creditEntries_frame r r.entries

/-! ### STORE -/

theorem State.releaseDeferred_of_none {s : State} (h : s.ic.deferred = none) : s.releaseDeferred = s := by
  simp [State.releaseDeferred, h]

theorem State.releaseDeferred_of_some {s : State} {d : Deferred} (h : s.ic.deferred = some d) : s.releaseDeferred =
    State.actOnBoundary { s with ic := { s.ic with deferred := none } } d.instant d.calValid d.handedIn d.found := by
  simp [State.releaseDeferred, h]

theorem gapRecord_reportsGap (f : FirstMissed) (missed sequence : BitVec 16) (lost : BitVec 12) :
    (gapRecord f missed sequence lost).reportsGap f missed sequence lost :=
  ⟨rfl, rfl, rfl, rfl, rfl, rfl, rfl, rfl, rfl, rfl, rfl, rfl, rfl, Record.halfSum_words_sealed _⟩

/-- With the close stage IDLE a GAP record that is due is built at once (R152). -/
theorem State.gapBuilt_of_idle {s : State} (idle : s.ic.stage = .idle) : s.gapBuilt s.buildDueGap := by
  rw [s.buildDueGap_of_idle idle, State.gapBuilt]
  cases s.ic.gapDue with
  | false => cases s.ic.firstMissed <;> rfl
  | true =>
    cases s.ic.firstMissed with
    | none => rfl
    | some f => exact ⟨_, gapRecord_reportsGap _ _ _ _, rfl⟩

/-- Settles O37: the offer, the completion, the GAP record that is due, and the release, in this order. -/
theorem storeCompletesTheClose : Obligations.StoreCompletesTheClose := by
  intro s r stage built
  have event : exec .store s = .next s.storeStage := congrArg Host.Outcome.next (if_pos stage)
  rw [s.storeStage_eq r built] at event
  refine ⟨(s.tookOffer r).closeDone.buildDueGap, _, event, State.gapBuilt_of_idle rfl, ?_⟩
  have held : (s.tookOffer r).closeDone.buildDueGap.ic.deferred = s.ic.deferred := State.buildDueGap_ic_deferred _
  have supply : (s.tookOffer r).closeDone.buildDueGap.monitor = s.monitor := by
    rw [State.buildDueGap_monitor]
    exact State.setBank_monitor _ _ _
  have boundary : (s.tookOffer r).closeDone.buildDueGap.ic.backupBoundary = s.ic.backupBoundary := State.buildDueGap_ic_backupBoundary _
  generalize (s.tookOffer r).closeDone.buildDueGap = after at held supply boundary ⊢
  cases deferred : s.ic.deferred with
  | none => exact State.releaseDeferred_of_none (held.trans deferred)
  | some d =>
    rw [State.releaseDeferred_of_some (held.trans deferred)]
    dsimp only
    by_cases later : d.handedIn = .backup ∧ d.found = .taken
    · rw [if_pos later, State.actOnBoundary_misses _ _ _ later]
      exact State.missInterval_spec _ _ _
    · rw [if_neg later, ← supply, ← boundary]
      exact State.actOnBoundary_closes { after with ic := { after.ic with deferred := none } } _ _ later

end Sys2Proof.Machine
end

section
/-! SUPPORT. The supplies and the event outputs: backup entry, backup return, settling (R144 to R152, R163, R164), the setting of a
cause and the course of a pulse (R156, R160 to R163). -/

namespace Sys2Proof.Machine

/-! ### Backup entry and settling -/

/-- The device that loses its main supply, before the OPEN bank takes POWER and the samples are discarded (R144, R146, R147, R163). -/
def State.supplyLost (s : State) : State :=
  { s with
    monitor := { s.monitor with supply := .backup, vddOk := false, settling := 0, abandonMark := s.markAtEntry }
    queue := s.queue.endHold
    ic := { s.ic with backupBoundary := .noneTaken }
    events := { s.events with a := s.events.a.atEntry, b := s.events.b.atEntry } }

/-- The OPEN bank takes POWER (R144). -/
def State.powerFlagged (s : State) : State := s.modifyOpen fun b => { b with flags := { b.flags with power := true } }

theorem State.powerFlagged_bank (s : State) (g : Tag) : s.powerFlagged.bank g =
    { s.bank g with flags := { (s.bank g).flags with power := (s.bank g).flags.power || g == s.openTag } } := by
  rw [State.powerFlagged, State.modifyOpen, State.modifyBank, State.bank_other_setBank]
  by_cases opened : g = s.openTag
  · simp [opened]
  · rw [if_neg opened, beq_false_of_ne opened, Bool.or_false]

theorem State.enterBackup_eq (s : State) : s.enterBackup = { s.supplyLost.powerFlagged.discardSamples with main := .start } := rfl

/-- Settles O49: the entry is the discard after the loss; settling is one update each way. -/
theorem backupEntryAndSettling : Obligations.BackupEntryAndSettling := by
  intro s
  refine ⟨fun main => ?_, fun backup low => congrArg Host.Outcome.next (if_pos ⟨backup, low⟩),
    fun backup high => congrArg Host.Outcome.next (if_pos ⟨backup, high⟩)⟩
  have event : exec .backupEntry s = .next s.enterBackup := congrArg Host.Outcome.next (if_pos (State.inMain_of main))
  rw [s.enterBackup_eq] at event
  obtain ⟨banks, ic, events, -⟩ := s.supplyLost.powerFlagged.discardSamples_spec
  have main' : s.supplyLost.powerFlagged.main = s.main := State.modifyOpen_main _ _
  rw [main'] at banks events
  refine ⟨_, event, (State.discardSamples_monitor _).trans (State.modifyOpen_monitor _ _), rfl, fun g => ?_, ?_, ?_, ?_, ?_⟩
  · have same : s.supplyLost.bank g = s.bank g := by cases g <;> rfl
    have bank := banks g
    rw [State.powerFlagged_bank, same] at bank
    exact bank
  · rw [show s.supplyLost.powerFlagged.ic = s.supplyLost.ic from State.modifyOpen_ic _ _] at ic
    exact ic
  · exact (State.discardSamples_queue _).trans (State.modifyOpen_queue _ _)
  · rw [show s.supplyLost.powerFlagged.events = s.supplyLost.events from State.modifyOpen_events _ _,
      show s.supplyLost.powerFlagged.monitor = s.supplyLost.monitor from State.modifyOpen_monitor _ _] at events
    exact events
  · simp [State.powerFlagged, State.supplyLost]

/-! ### The setting of a cause -/

/-- What a setting does to an output, by its pin (R156). -/
theorem EventUnit.set_output (e : EventUnit) (x : SupplyState) (c : Cause) (pin : EventPin) : (e.set x c).output pin =
    if holdsCause e.pending c then e.output pin else (e.output pin).onSetting x c := by
  rw [EventUnit.set]
  cases pin <;> split <;> rfl

/-- In MAIN a setting requests a pulse, where none is under way (R161). -/
theorem EventOutput.onSetting_main {o : EventOutput} {c : Cause} (pulse : o.mode = .pulse) (masked : o.mask.getLsbD c.position = true) :
    o.onSetting .main c = { o with pulse := if o.pulse = .idle then .requested else o.pulse } :=
  if_pos ⟨pulse, masked⟩

/-- In BACKUP a setting leaves a return mark (R163). -/
theorem EventOutput.onSetting_backup {o : EventOutput} {c : Cause} (pulse : o.mode = .pulse) (masked : o.mask.getLsbD c.position = true) :
    o.onSetting .backup c = { o with returnMark := true } :=
  if_pos ⟨pulse, masked⟩

theorem EventOutput.onSetting_of_not {o : EventOutput} (x : SupplyState) {c : Cause}
    (other : o.mode ≠ .pulse ∨ o.mask.getLsbD c.position = false) : o.onSetting x c = o := by
  refine if_neg fun ⟨pulse, masked⟩ => ?_
  rcases other with h | h
  · exact h pulse
  · exact Bool.false_ne_true (h.symm.trans masked)

theorem EventOutput.onSetting_mode_mask (o : EventOutput) (x : SupplyState) (c : Cause) :
    (o.onSetting x c).mode = o.mode ∧ (o.onSetting x c).mask = o.mask := by
  unfold EventOutput.onSetting
  split
  · cases x <;> exact ⟨rfl, rfl⟩
  · exact ⟨rfl, rfl⟩

/-- Settles O51: the pending set by its law, each output by what a setting does to it. -/
theorem settingACause : Obligations.SettingACause := by
  intro e x c
  refine ⟨fun i => ?_, e.set_of_pending x c, fun pin => ?_⟩
  · rw [e.set_pending, BitVec.getLsbD_or, c.getLsbD_bit]
  · dsimp only
    rw [e.set_output]
    by_cases pending : holdsCause e.pending c = true
    · rw [if_pos pending]
      refine ⟨rfl, rfl, fun clear => ?_, fun _ => rfl⟩
      exact absurd (clear.symm.trans pending) Bool.false_ne_true
    · rw [if_neg pending]
      obtain ⟨mode, mask⟩ := (e.output pin).onSetting_mode_mask x c
      refine ⟨mode, mask, fun _ pulse masked => ⟨?_, ?_⟩, EventOutput.onSetting_of_not x⟩
      · rintro rfl
        exact EventOutput.onSetting_main pulse masked
      · rintro rfl
        exact EventOutput.onSetting_backup pulse masked

/-! ### Levels and pulses -/

theorem Cause.exists_position {i : Nat} (h : i < 12) : ∃ c : Cause, c.position = i := by
  interval_cases i
  exacts [⟨.boundary, rfl⟩, ⟨.queueLevel, rfl⟩, ⟨.queueLoss, rfl⟩, ⟨.sampleDrop, rfl⟩, ⟨.linkError, rfl⟩, ⟨.accOvf, rfl⟩,
    ⟨.checkBad, rfl⟩, ⟨.cmdDone, rfl⟩, ⟨.configApplied, rfl⟩, ⟨.supply, rfl⟩, ⟨.timeInvalid, rfl⟩, ⟨.windowFault, rfl⟩]

/-- Two sets of causes meet in a cause (R160). -/
theorem and_ne_zero_iff (x y : BitVec 12) :
    x &&& y ≠ 0#12 ↔ ∃ c : Cause, x.getLsbD c.position = true ∧ y.getLsbD c.position = true := by
  refine ⟨fun h => ?_, fun ⟨c, hx, hy⟩ zero => ?_⟩
  · by_contra none
    refine h (BitVec.eq_of_getLsbD_eq fun i hi => ?_)
    obtain ⟨c, rfl⟩ := Cause.exists_position hi
    have clear : ¬ (x.getLsbD c.position = true ∧ y.getLsbD c.position = true) := fun both => none ⟨c, both⟩
    rw [BitVec.getLsbD_and, BitVec.getLsbD_zero, ← Bool.not_eq_true, Bool.and_eq_true]
    exact clear
  · have both : (x &&& y).getLsbD c.position = true := by rw [BitVec.getLsbD_and, hx, hy, Bool.and_self]
    rw [zero, BitVec.getLsbD_zero] at both
    exact Bool.false_ne_true both

theorem EventUnit.output_withOutput (e : EventUnit) (pin : EventPin) (o : EventOutput) :
    (e.withOutput pin o).pending = e.pending ∧ (e.withOutput pin o).output pin = o ∧
    ∀ other, other ≠ pin → (e.withOutput pin o).output other = e.output other := by
  cases pin with
  | a =>
    refine ⟨rfl, rfl, fun other ne => ?_⟩
    cases other with
    | a => exact absurd rfl ne
    | b => rfl
  | b =>
    refine ⟨rfl, rfl, fun other ne => ?_⟩
    cases other with
    | a => rfl
    | b => exact absurd rfl ne

/-- The pulse of an output after a crystal period edge, where none is requested in the same period (R161). -/
theorem EventOutput.edge_pulse (o : EventOutput) : (o.edge o.pulse).pulse = o.pulse.edge := by
  rw [EventOutput.edge]
  split_ifs with idle
  · rw [idle]
    rfl
  · rfl

/-- In MAIN a period inside a second moves the pulses and the phase alone (R161, R39). -/
theorem step_main_pulse {s : State} (pending : s.pending = []) (osc : s.oscRunning = true) (main : s.monitor.supply = .main)
    (inside : s.cal.phase + 1 < 32768) (pin : EventPin) :
    ∃ t, step s = .next t ∧ (t.events.output pin).pulse = (s.events.output pin).pulse.edge := by
  have ticking : s.ticking = true := State.ticking_of osc (by simp [main])
  have quiet : s.settle = s := State.settle_of_not_settling (by simp [main])
  have one : step s = .next (s.edges s.events).phaseStep := by
    rw [step_idle pending, State.crystalPeriod_inside ticking inside]
  rw [State.edges, quiet, State.phaseStep_inside (by exact inside)] at one
  refine ⟨_, one, ?_⟩
  cases pin <;> exact EventOutput.edge_pulse _

/-- Settles O52: the level by the mode, the course of a pulse by the edge. -/
theorem outputLevelsAndPulses : Obligations.OutputLevelsAndPulses := by
  intro s pin
  refine ⟨fun not_main => ?_, fun main => ⟨fun mode => ?_, fun mode => ?_, fun mode => ?_, fun mode => ?_⟩, fun osc powered =>
    ⟨fun requested => ?_, fun low => ?_, fun pending main inside => ?_⟩⟩
  · simp [State.outputLow, not_main]
  · simp [State.outputLow, mode]
  · rw [← and_ne_zero_iff]
    simp [State.outputLow, mode, main]
  · simp [State.outputLow, mode, main, Calendar.markerHigh]
  · simp [State.outputLow, mode, main]
  · have event : exec (.pulseStart pin) s = .next (s.withPulse pin .low2) :=
      congrArg Host.Outcome.next (if_pos ⟨State.ticking_of osc powered, requested⟩)
    exact ⟨_, event, rfl, s.events.output_withOutput pin _⟩
  · have event : exec (.pulseEnd pin) s = .next (s.withPulse pin .idle) :=
      congrArg Host.Outcome.next (if_pos ⟨State.ticking_of osc powered, low⟩)
    exact ⟨_, event, rfl, s.events.output_withOutput pin _⟩
  · obtain ⟨t, one, pulse⟩ := step_main_pulse pending osc main inside pin
    refine ⟨t, one, pulse.trans ?_⟩
    cases (s.events.output pin).pulse <;> rfl

/-! ### Backup return -/

/-- The device back in MAIN with a started main domain, SUPPLY set and its outputs resumed (R144, R151, R164). -/
def State.resumed (s : State) : State :=
  State.setCause { s with
    monitor := { s.monitor with
      supply := .main, settling := 0, startCause := s.monitor.causeAfterReturn, coldIntoBackup := false }
    main := .start
    events := { s.events with a := s.events.a.atReturn, b := s.events.b.atReturn } } .supply

/-- The device back in MAIN, before a GAP record that is due is built (R146, R151). -/
def State.returned (s : State) : State := s.resumed.reportAbandoned.markGapDue

theorem State.reportAbandoned_of_none {s : State} (h : s.monitor.abandonMark = none) : s.reportAbandoned = s := by
  simp [State.reportAbandoned, h]

theorem State.reportAbandoned_of_some {s : State} {code : Byte} (h : s.monitor.abandonMark = some code) :
    s.reportAbandoned = State.report { s with monitor := { s.monitor with abandonMark := none } } code .aborted := by
  simp [State.reportAbandoned, h]

theorem State.returnToMain_eq (s : State) : s.returnToMain = s.returned.buildDueGap := rfl

theorem State.returned_cal (s : State) : s.returned.cal = s.cal := by
  cases mark : s.monitor.abandonMark with
  | none => rw [State.returned, State.reportAbandoned_of_none (by exact mark)]; rfl
  | some code => rw [State.returned, State.reportAbandoned_of_some (by exact mark)]; rfl

/-- Without pulses under way a period's edge is its settling (R144). -/
theorem State.edges_of_idle {s : State} {before : EventUnit} (a : before.a.pulse = .idle) (b : before.b.pulse = .idle) :
    s.edges before = s.settle := by
  simp [State.edges, a, b, EventOutput.edge_of_idle]

theorem step_settling {s : State} (pending : s.pending = []) (ticking : s.ticking = true) (inside : s.cal.phase + 1 < 32768)
    (a : s.events.a.pulse = .idle) (b : s.events.b.pulse = .idle) : step s = .next s.settle.phaseStep := by
  rw [step_idle pending, State.crystalPeriod_inside ticking inside, State.edges_of_idle a b]

/-- Settles O50: the return as one update, then the GAP record that is due; settling reaches it at its 8192nd period. -/
theorem backupReturn : Obligations.BackupReturn := by
  intro s backup high osc resumed supplied back due
  have ticking : s.ticking = true := State.ticking_of osc (by simp [backup])
  have event : exec .backupReturn s = .next s.returned.buildDueGap := congrArg Host.Outcome.next (if_pos ⟨backup, high, osc⟩)
  have same : s.returned = due := by
    cases mark : s.monitor.abandonMark with
    | none =>
      rw [State.returned, State.reportAbandoned_of_none (by exact mark)]
      simp only [due, back, supplied, mark]
      rw [← mark]
      rfl
    | some code =>
      rw [State.returned, State.reportAbandoned_of_some (by exact mark)]
      simp only [due, back, supplied, mark]
      rfl
  refine ⟨⟨_, event, fun busy => ?_, fun idle => ?_, fun settled pending inside a b => ?_⟩, fun settling pending inside a b => ?_⟩
  · rw [same]
    exact State.buildDueGap_of_busy due busy
  · rw [same]
    exact State.gapBuilt_of_idle idle
  · have reached : s.settle = s.returned.buildDueGap := by
      rw [State.settle, if_pos ⟨backup, high⟩, if_pos (by simp only [Config.settlePeriods]; omega), State.returnToMain_eq]
    have cal : s.returned.buildDueGap.cal = s.cal := by rw [State.buildDueGap_cal, State.returned_cal]
    rw [step_settling pending ticking inside a b, reached, State.phaseStep_inside (by rwa [cal]), cal]
  · have counted : s.settle = { s with monitor := { s.monitor with settling := s.monitor.settling + 1 } } := by
      rw [State.settle, if_pos ⟨backup, high⟩, if_neg (by simp only [Config.settlePeriods]; omega)]
    rw [step_settling pending ticking inside a b, counted, State.phaseStep_inside (by exact inside)]

end Sys2Proof.Machine
end

section
/-! SUPPORT. The block as a whole: a step, the reset values, the stopped main domain, and which commands change the tables. -/

namespace Sys2Proof.Machine

/-! ### Steps and resets -/

/-- Settles O1: by the definition of a step. -/
theorem stepRunsTheFrontCommand : Obligations.StepRunsTheFrontCommand := by
  intro c rest s front
  rw [step, front]

/-- Settles O2: every arm of the dispatch answers a next state. -/
theorem everyCommandAnswers : Obligations.EveryCommandAnswers := by
  intro c s
  cases c <;> exact ⟨_, rfl⟩

/-- The opening of a cold start: bank A under the default set at the origin (R96). -/
theorem openedBank_cold (power : Bool) : openedBank ConfigSet.default .boundary .origin false false power = Bank.coldOpen power := by
  cases power <;> decide

/-- Settles O4: the cold start is the opening of bank A in the blank device. -/
theorem coldStartAndSupplyLoss : Obligations.ColdStartAndSupplyLoss := by
  refine fun s => ⟨fun vddOk => congrArg Host.Outcome.next ?_, rfl⟩
  rw [State.coldStart, State.opening_eq]
  cases vddOk with
  | false =>
    have bank : openedBank ((s.blank ⟨.backup, false, 0, .cold, true, none⟩).activeAfter .boundary) .boundary .origin false
        ((s.blank ⟨.backup, false, 0, .cold, true, none⟩).applies .boundary) true = Bank.coldOpen true := openedBank_cold true
    exact congrArg (State.setBank (s.blank ⟨.backup, false, 0, .cold, true, none⟩) .a) bank
  | true =>
    have bank : openedBank ((s.blank ⟨.main, true, 0, .cold, false, none⟩).activeAfter .boundary) .boundary .origin false
        ((s.blank ⟨.main, true, 0, .cold, false, none⟩).applies .boundary) false = Bank.coldOpen false := openedBank_cold false
    exact congrArg (State.setBank (s.blank ⟨.main, true, 0, .cold, false, none⟩) .a) bank

/-- Settles O5: every value of the reset state. -/
theorem resetValues : Obligations.ResetValues := by
  refine ⟨⟨rfl, rfl, rfl, rfl⟩, rfl, ⟨rfl, rfl, rfl, rfl, rfl, rfl, rfl, rfl, rfl, rfl, ?_⟩, ⟨rfl, rfl, rfl, rfl, rfl, rfl, rfl, rfl, rfl, rfl, ?_⟩,
    rfl, ⟨rfl, rfl, ?_⟩, ⟨rfl, rfl, rfl, rfl, rfl, rfl, rfl, rfl, rfl, rfl⟩, ?_, rfl, rfl, rfl, rfl, rfl, ?_, rfl, rfl, rfl, rfl, rfl, rfl,
    rfl, rfl, rfl, rfl, rfl, rfl⟩
  · decide
  · decide
  · decide
  · decide
  · decide

/-! ### Outside MAIN -/

theorem State.inMain_of_not {s : State} (stopped : s.monitor.supply ≠ .main) : s.inMain = false := by
  simpa [State.inMain] using stopped

theorem State.writing_of_not {s : State} (stopped : s.monitor.supply ≠ .main) : s.writing = false := by
  simp [State.writing, State.inMain_of_not stopped]

/-- Outside MAIN no field is written. -/
theorem State.fieldWrite_stopped {s : State} (stopped : s.monitor.supply ≠ .main) (select : Reg → Bool) (b : Byte)
    (act : Reg → List Byte → State → State) : s.fieldWrite select b act = s := by
  unfold State.fieldWrite
  simp only [State.writing_of_not stopped, Bool.false_eq_true, false_and, if_false]
  split <;> rfl

/-- Outside MAIN no command is written. -/
theorem State.commandByte_stopped {s : State} (stopped : s.monitor.supply ≠ .main) (select : Byte → Bool)
    (act : Byte → State → State) : s.commandByte select act = s := by
  rw [State.commandByte, if_neg]
  simp [State.writing_of_not stopped]

theorem State.commandRow_stopped {s : State} (stopped : s.monitor.supply ≠ .main) (c : Cmd) (arg : Byte) : s.commandRow c arg = s :=
  State.commandByte_stopped stopped _ _

/-- Outside MAIN the link receiver takes no edges (R8). -/
theorem State.linkEdge_stopped {s : State} (stopped : s.monitor.supply ≠ .main) (lfs lda : Bool) : s.linkEdge lfs lda = s := by
  simp [State.linkEdge, State.inMain_of_not stopped]

/-- Outside MAIN nothing arrives at SAMPLE_ENTRY. -/
theorem State.atSampleEntry_of_not {s : State} (stopped : s.monitor.supply ≠ .main) : s.atSampleEntry = false := by
  simp [State.atSampleEntry, State.writing_of_not stopped]

theorem State.csnFall_stopped {s : State} (stopped : s.inMain = false) : exec .csnFall s = .next { s with csnHigh := false } := by
  refine congrArg Host.Outcome.next ?_
  by_cases high : s.csnHigh = true
  · rw [if_pos high]
    exact if_neg (by simpa [State.inMain] using stopped)
  · rw [if_neg high, ← Bool.eq_false_of_not_eq_true high]

theorem State.csnRise_stopped {s : State} (stopped : s.inMain = false) : exec .csnRise s = .next { s with csnHigh := true } := by
  refine congrArg Host.Outcome.next ?_
  by_cases high : s.csnHigh = true
  · rw [if_pos high, ← high]
  · rw [if_neg high]
    exact if_neg (by simpa [State.inMain] using stopped)

/-- Settles O6: every row asks for MAIN. -/
theorem mainDomainIsStoppedOutsideMain : Obligations.MainDomainIsStoppedOutsideMain := by
  intro s stopped
  have inMain := State.inMain_of_not stopped
  have writing := State.writing_of_not stopped
  have entry := State.atSampleEntry_of_not stopped
  have row := State.commandRow_stopped stopped
  have field := State.fieldWrite_stopped stopped
  refine ⟨fun lfs lda => ?_, fun lda => ?_, fun lda => ?_, ?_, ?_, ?_, ?_, ?_, ?_, ?_, fun b c mem => ?_⟩
  · exact congrArg Host.Outcome.next (State.linkEdge_stopped stopped lfs lda)
  · exact congrArg Host.Outcome.next (State.linkEdge_stopped stopped false lda)
  · exact congrArg Host.Outcome.next (State.linkEdge_stopped stopped true lda)
  · simp [exec, execEngineTake, inMain]
  · simp only [exec, execAccumulation, inMain]
    split <;> rfl
  · simp [exec, execRecordDataRead, State.readingSlot, inMain]
  · exact congrArg Host.Outcome.next (row .configCommit 1)
  · simp [exec, execCommandHandover, State.handOver, inMain]
  · exact State.csnFall_stopped inMain
  · exact State.csnRise_stopped inMain
  · simp only [List.mem_cons, List.not_mem_nil, or_false] at mem
    rcases mem with rfl | rfl | rfl | rfl | rfl | rfl | rfl | rfl | rfl | rfl | rfl | rfl | rfl | rfl | rfl | rfl | rfl | rfl | rfl |
      rfl | rfl | rfl | rfl | rfl | rfl | rfl | rfl | rfl | rfl
    · simp [exec, execSampleEntryByte, entry]
    · simp [exec, execSampleEntryGroup, entry]
    · simp [exec, execAddressByte, inMain]
    iterate 9 exact congrArg Host.Outcome.next (field _ b _)
    · simp only [exec, execReadOnlyWrite, writing]
      split <;> simp
    · exact congrArg Host.Outcome.next (field _ b _)
    · simp only [exec, execFieldLatchByte, writing]
      split <;> simp
    iterate 2 exact congrArg Host.Outcome.next (row _ b)
    · simp [exec, execConfigCommitAtNext, row]
    iterate 10 exact congrArg Host.Outcome.next (row _ b)
    · exact congrArg Host.Outcome.next (State.commandByte_stopped stopped _ _)

/-! ### The tables -/

/-- Totals and demand entries stay, and the sequence number stays or goes up by one. -/
def State.keepsTables (s t : State) : Prop :=
  t.totals = s.totals ∧ t.demand = s.demand ∧ (t.ic.nextSeq = s.ic.nextSeq ∨ t.ic.nextSeq = s.ic.nextSeq + 1)

theorem State.keepsTables_of_eq {s t : State} (totals : t.totals = s.totals) (demand : t.demand = s.demand)
    (seq : t.ic.nextSeq = s.ic.nextSeq) : s.keepsTables t := ⟨totals, demand, .inl seq⟩

theorem State.keepsTables_ite {s t : State} {p : Prop} [Decidable p] (h : p → s.keepsTables t) :
    s.keepsTables (if p then t else s) := by
  split
  · exact h ‹_›
  · exact State.keepsTables_of_eq rfl rfl rfl

/-- The last byte of a field keeps the tables where its effect does. -/
theorem State.fieldWrite_keepsTables {s : State} (select : Reg → Bool) (b : Byte) (act : Reg → List Byte → State → State)
    (h : ∀ r bytes (u : State), (act r bytes u).totals = u.totals ∧ (act r bytes u).demand = u.demand ∧ (act r bytes u).ic = u.ic) :
    s.keepsTables (s.fieldWrite select b act) := by
  refine State.fieldWrite_holds (P := s.keepsTables) select b act (State.keepsTables_of_eq rfl rfl rfl) (State.keepsTables_of_eq rfl rfl rfl)
    fun r bytes _ => ?_
  obtain ⟨totals, demand, ic⟩ := h r bytes s.clearLatch.advance
  exact State.keepsTables_of_eq totals demand (congrArg IntervalController.nextSeq ic)

@[simp] theorem State.doTimeLoad_ic_nextSeq (s : State) : s.doTimeLoad.ic.nextSeq = s.ic.nextSeq := by
  unfold State.doTimeLoad
  dsimp only
  split <;> simp

@[simp] theorem State.doConfigCommit_ic_nextSeq (s : State) (arg : Byte) : (s.doConfigCommit arg).ic.nextSeq = s.ic.nextSeq := by
  unfold State.doConfigCommit State.doCommitNow
  (repeat' split) <;> simp

@[simp] theorem State.doForceClose_ic_nextSeq (s : State) : s.doForceClose.ic.nextSeq = s.ic.nextSeq := by
  simp [State.doForceClose]

@[simp] theorem State.doSoftReset_ic_nextSeq (s : State) : s.doSoftReset.ic.nextSeq = s.ic.nextSeq := by
  simp [State.doSoftReset_eq, State.restarted]

/-- A command other than TOTALS_CLEAR and DEMAND_RESET leaves both tables, and those two each the other's; none builds a record. -/
def Cmd.movesTables (c : Cmd) (s t : State) : Prop :=
  (c ≠ .totalsClear → t.totals = s.totals) ∧ (c ≠ .demandReset → t.demand = s.demand) ∧ t.ic.nextSeq = s.ic.nextSeq

theorem State.owner_movesTables (s : State) (c : Cmd) (arg : Byte) : c.movesTables s (s.owner c arg) := by
  cases c <;> simp [State.owner, Cmd.movesTables]

theorem State.commandRow_movesTables (s : State) (c : Cmd) (arg : Byte) : c.movesTables s (s.commandRow c arg) :=
  State.commandRow_holds (P := c.movesTables s) c arg ⟨fun _ => rfl, fun _ => rfl, rfl⟩ ⟨fun _ => rfl, fun _ => rfl, rfl⟩
    (fun _ => ⟨fun _ => rfl, fun _ => rfl, rfl⟩) (fun _ => ⟨fun _ => rfl, fun _ => rfl, rfl⟩)
    fun _ => State.owner_movesTables s.clearLatch.advance c arg

theorem State.commandRow_keepsTables (s : State) {c : Cmd} (totals : c ≠ .totalsClear) (demand : c ≠ .demandReset) (arg : Byte) :
    s.keepsTables (s.commandRow c arg) := by
  obtain ⟨sameTotals, sameDemand, sameSeq⟩ := s.commandRow_movesTables c arg
  exact State.keepsTables_of_eq (sameTotals totals) (sameDemand demand) sameSeq

theorem State.buildDueGap_keepsTables (s : State) : s.keepsTables s.buildDueGap := by
  refine ⟨by simp, by simp, ?_⟩
  unfold State.buildDueGap State.buildGap
  split
  · split
    · exact .inl rfl
    · exact .inr (by simp)
  · exact .inl rfl

theorem State.keepsTables_congr {s u t : State} (totals : u.totals = s.totals) (demand : u.demand = s.demand)
    (seq : u.ic.nextSeq = s.ic.nextSeq) (h : u.keepsTables t) : s.keepsTables t := by
  rwa [State.keepsTables, totals, demand, seq] at h

theorem State.storeStage_keepsTables (s : State) : s.keepsTables s.storeStage := by
  have released (u : State) (totals : u.totals = s.totals) (demand : u.demand = s.demand) (seq : u.ic.nextSeq = s.ic.nextSeq) :
      s.keepsTables u.buildDueGap.releaseDeferred := by
    have built := State.keepsTables_congr totals demand seq u.buildDueGap_keepsTables
    simpa [State.keepsTables] using built
  unfold State.storeStage State.completeClose
  dsimp only
  split
  · exact released _ (by simp) (by simp) (by simp)
  · exact released _ (by simp) (by simp) (by simp)

theorem State.returnToMain_keepsTables (s : State) : s.keepsTables s.returnToMain := by
  have seq : s.returned.ic.nextSeq = s.ic.nextSeq ∧ s.returned.totals = s.totals ∧ s.returned.demand = s.demand := by
    cases mark : s.monitor.abandonMark with
    | none => rw [State.returned, State.reportAbandoned_of_none (by exact mark)]; exact ⟨rfl, rfl, rfl⟩
    | some code => rw [State.returned, State.reportAbandoned_of_some (by exact mark)]; exact ⟨rfl, rfl, rfl⟩
  obtain ⟨seq, totals, demand⟩ := seq
  exact State.keepsTables_congr totals demand seq s.returned.buildDueGap_keepsTables

theorem State.linkEdge_keepsTables (s : State) (lfs lda : Bool) : s.keepsTables (s.linkEdge lfs lda) := by
  refine State.keepsTables_ite fun _ => ?_
  (repeat' split) <;> exact State.keepsTables_of_eq (by simp [State.beginFrame]) (by simp [State.beginFrame]) (by simp [State.beginFrame])

theorem State.takeUnknown_keepsTables (s : State) (code : Byte) : s.keepsTables (s.takeUnknown code) := by
  unfold State.takeUnknown
  split <;> exact State.keepsTables_of_eq rfl rfl rfl

theorem State.readByte_keepsTables (s : State) : s.keepsTables s.readByte.2 := by
  unfold State.readByte State.readRecordByte State.captured
  (repeat' split) <;> exact State.keepsTables_of_eq (by simp) (by simp) (by simp)

theorem State.putPage_tables (s : State) (b : Byte) :
    (s.putPage b).totals = s.totals ∧ (s.putPage b).demand = s.demand ∧ (s.putPage b).ic = s.ic := by
  unfold State.putPage
  split <;> exact ⟨rfl, rfl, rfl⟩

theorem State.putSelect_tables (s : State) (r : Reg) (b : Byte) :
    (s.putSelect r b).totals = s.totals ∧ (s.putSelect r b).demand = s.demand ∧ (s.putSelect r b).ic = s.ic := by
  unfold State.putSelect
  (repeat' split) <;> exact ⟨rfl, rfl, rfl⟩

theorem State.putStaged_tables (s : State) (r : Reg) (bytes : List Byte) :
    (s.putStaged r bytes).totals = s.totals ∧ (s.putStaged r bytes).demand = s.demand ∧ (s.putStaged r bytes).ic = s.ic := by
  unfold State.putStaged
  split <;> exact ⟨rfl, rfl, rfl⟩

theorem State.putMode_tables (s : State) (pin : EventPin) (b : Byte) :
    (s.putMode pin b).totals = s.totals ∧ (s.putMode pin b).demand = s.demand ∧ (s.putMode pin b).ic = s.ic := by
  unfold State.putMode
  split <;> exact ⟨rfl, rfl, rfl⟩

theorem State.putSnapItem_tables (s : State) (channel tariff : Nat) :
    (s.putSnapItem channel tariff).totals = s.totals ∧ (s.putSnapItem channel tariff).demand = s.demand ∧
    (s.putSnapItem channel tariff).ic = s.ic := by
  unfold State.putSnapItem
  split <;> exact ⟨rfl, rfl, rfl⟩

/-- Every command but CREDIT, the clears, the hand-over and the two ends of power keeps the tables. -/
theorem exec_keepsTables {c : Instr} {s t : State} (h : exec c s = .next t) (credit : c ≠ .credit) (totals : ∀ a, c ≠ .totalsClear a)
    (demand : ∀ a, c ≠ .demandReset a) (handover : c ≠ .commandHandover) (loss : c ≠ .supplyLoss) (cold : ∀ v, c ≠ .coldStart v) :
    s.keepsTables t := by
  cases c <;> cases h
  case credit => exact absurd rfl credit
  case totalsClear a => exact absurd rfl (totals a)
  case demandReset a => exact absurd rfl (demand a)
  case commandHandover => exact absurd rfl handover
  case supplyLoss => exact absurd rfl loss
  case coldStart v => exact absurd rfl (cold v)
  case linkFrame lda => exact s.linkEdge_keepsTables false lda
  case frameTruncated lda => exact s.linkEdge_keepsTables true lda
  case linkBit lfs lda => exact s.linkEdge_keepsTables lfs lda
  case sampleEntryGroup b => exact State.keepsTables_ite fun _ => State.keepsTables_of_eq (by simp) (by simp) (by simp)
  case accumulation =>
    split
    · exact State.keepsTables_ite fun _ => State.keepsTables_of_eq (by simp [State.completeAccumulation])
        (by simp [State.completeAccumulation]) (by simp [State.completeAccumulation])
    · exact State.keepsTables_of_eq rfl rfl rfl
  case secondEvent => exact State.keepsTables_ite fun _ => State.keepsTables_of_eq (by simp) (by simp) (by simp)
  case build => exact State.keepsTables_ite fun _ => ⟨rfl, rfl, .inr rfl⟩
  case store => exact State.keepsTables_ite fun _ => s.storeStage_keepsTables
  case backupEntry =>
    exact State.keepsTables_ite fun _ => State.keepsTables_of_eq (by simp [State.enterBackup]) (by simp [State.enterBackup])
      (by simp [State.enterBackup])
  case backupReturn => exact State.keepsTables_ite fun _ => s.returnToMain_keepsTables
  case configCommitAtNext arg =>
    split
    · exact State.keepsTables_of_eq rfl rfl rfl
    · exact s.commandRow_keepsTables (c := .configCommit) (by decide) (by decide) arg
  case configCommitNow => exact s.commandRow_keepsTables (c := .configCommit) (by decide) (by decide) 1
  case timeLoad arg => exact s.commandRow_keepsTables (c := .timeLoad) (by decide) (by decide) arg
  case timeTrim arg => exact s.commandRow_keepsTables (c := .timeTrim) (by decide) (by decide) arg
  case configCancel arg => exact s.commandRow_keepsTables (c := .configCancel) (by decide) (by decide) arg
  case configFetch arg => exact s.commandRow_keepsTables (c := .configFetch) (by decide) (by decide) arg
  case forceClose arg => exact s.commandRow_keepsTables (c := .forceClose) (by decide) (by decide) arg
  case snapshot arg => exact s.commandRow_keepsTables (c := .snapshot) (by decide) (by decide) arg
  case recordOpen arg => exact s.commandRow_keepsTables (c := .recordOpen) (by decide) (by decide) arg
  case recordRelease arg => exact s.commandRow_keepsTables (c := .recordRelease) (by decide) (by decide) arg
  case queueFlush arg => exact s.commandRow_keepsTables (c := .queueFlush) (by decide) (by decide) arg
  case softReset arg => exact s.commandRow_keepsTables (c := .softReset) (by decide) (by decide) arg
  case unknownCommand =>
    exact State.commandByte_holds (P := s.keepsTables) _ _ (State.keepsTables_of_eq rfl rfl rfl) (State.keepsTables_of_eq rfl rfl rfl)
      fun code => State.takeUnknown_keepsTables s.clearLatch.advance code
  case recordDataRead => exact State.keepsTables_ite fun _ => s.readByte_keepsTables
  case pageWrite b => exact State.fieldWrite_keepsTables _ b _ fun _ _ u => u.putPage_tables b
  case slotSelectWrite b => exact State.fieldWrite_keepsTables _ b _ fun r _ u => u.putSelect_tables r b
  case stagedFieldWrite b => exact State.fieldWrite_keepsTables _ b _ fun r bytes u => u.putStaged_tables r bytes
  case modeWrite b => exact State.fieldWrite_keepsTables _ b _ fun r _ u => u.putMode_tables r.pin b
  case snapItemWrite b => exact State.fieldWrite_keepsTables _ b _ fun _ bytes u => u.putSnapItem_tables (bytes.headD 0).toNat b.toNat
  case queuePolicyWrite b =>
    refine State.fieldWrite_keepsTables _ b _ fun _ _ u => ?_
    (repeat' split) <;> exact ⟨rfl, rfl, rfl⟩
  case causeClear b | maskWrite b | levelThresholdWrite b | registerWrite b =>
    exact State.fieldWrite_keepsTables _ b _ fun _ _ _ => ⟨rfl, rfl, rfl⟩
  case engineTake | secondMarkerRise | addressByte | sampleEntryByte | settlingStart | settlingAbort | pulseStart | pulseEnd =>
    exact State.keepsTables_ite fun _ => State.keepsTables_of_eq rfl rfl rfl
  case oscillatorStop | oscillatorRestart => exact State.keepsTables_of_eq rfl rfl rfl
  case csnFall | csnRise | readOnlyWrite | fieldLatchByte | recordMemoryFault =>
    (repeat' split) <;> exact State.keepsTables_of_eq (by simp) (by simp) (by simp)

theorem State.creditStage_nextSeq (s : State) : s.creditStage.ic.nextSeq = s.ic.nextSeq := by
  unfold State.creditStage
  dsimp only
  split
  · obtain ⟨ic, -⟩ := s.creditRecord_frame ‹_›
    rw [ic]
  · rfl

/-- A hand-over of a waiting command moves the tables as that command does. -/
theorem State.handOver_cases (s : State) :
    s.handOver = s ∨ ∃ c arg, s.main.cmd.waiting = some (c, arg) ∧ s.handOver = s.owner c arg := by
  unfold State.handOver
  split
  · cases waiting : s.main.cmd.waiting with
    | none => exact .inl rfl
    | some w => exact .inr ⟨w.1, w.2, rfl, rfl⟩
  · exact .inl rfl

/-- Settles O60: CREDIT, the two clears and the hand-over by their own effect, every other command keeps the tables. -/
theorem onlyCreditsAndClearsChangeTheTables : Obligations.OnlyCreditsAndClearsChangeTheTables := by
  intro c s t h loss cold
  by_cases credit : c = .credit
  · subst credit
    cases h
    refine ⟨fun no => absurd rfl no, fun no => absurd rfl no, .inl ?_⟩
    split
    · exact s.creditStage_nextSeq
    · rfl
  by_cases clear : ∃ a, c = .totalsClear a
  · obtain ⟨a, rfl⟩ := clear
    cases h
    obtain ⟨-, demand, seq⟩ := s.commandRow_movesTables .totalsClear a
    exact ⟨fun _ no => absurd rfl (no a), fun _ _ _ => demand (by decide), .inl seq⟩
  by_cases reset : ∃ a, c = .demandReset a
  · obtain ⟨a, rfl⟩ := reset
    cases h
    obtain ⟨totals, -, seq⟩ := s.commandRow_movesTables .demandReset a
    exact ⟨fun _ _ _ => totals (by decide), fun _ no => absurd rfl (no a), .inl seq⟩
  by_cases handover : c = .commandHandover
  · subst handover
    cases h
    rcases s.handOver_cases with same | ⟨w, arg, waiting, acted⟩
    · rw [same]
      exact ⟨fun _ _ _ => rfl, fun _ _ _ => rfl, .inl rfl⟩
    · obtain ⟨totals, demand, seq⟩ := s.owner_movesTables w arg
      rw [← acted] at totals demand seq
      exact ⟨fun _ _ no => totals fun is => no arg ⟨rfl, is ▸ waiting⟩, fun _ _ no => demand fun is => no arg ⟨rfl, is ▸ waiting⟩,
        .inl seq⟩
  · obtain ⟨totals, demand, seq⟩ := exec_keepsTables h credit (fun a is => clear ⟨a, is⟩) (fun a is => reset ⟨a, is⟩) handover loss cold
    exact ⟨fun _ _ _ => totals, fun _ _ _ => demand, seq⟩

end Sys2Proof.Machine
end

section
/-! SUPPORT. The register window: transactions (R166), byte slots and the field latch (R169, R170), RECORD_DATA (R109) and the writes
of the window's own registers and of the other owners' (R106, R126, R157, R159, R171). -/

namespace Sys2Proof.Machine

/-! ### Transactions -/

theorem getLsbD_seven (b : Byte) : b.getLsbD 7 = decide (128 ≤ b.toNat) := b.msb_eq_decide

theorem pointerOf_byte (b : Byte) : b.extractLsb' 0 7 = BitVec.ofNat 7 b.toNat := by
  apply BitVec.eq_of_toNat_eq
  simp [BitVec.extractLsb'_toNat]

/-- The pointer moves on within its half of the window and stays at the two streaming ports (R166, R167). -/
theorem nextPointer_toNat (p : BitVec 7) : (nextPointer p).toNat =
    if p = 0x2B ∨ p = 0x2C then p.toNat else if p = 0x3F then 0 else if p = 0x7F then 0x40 else p.toNat + 1 := by
  have port : streaming p = true ↔ p = 0x2B ∨ p = 0x2C := by simp [streaming]
  by_cases at_port : p = 0x2B ∨ p = 0x2C
  · rw [nextPointer, if_pos (port.mpr at_port), if_pos at_port]
  · rw [nextPointer, if_neg (mt port.mp at_port), if_neg at_port]
    by_cases low_end : p = 0x3F
    · rw [if_pos low_end, if_pos low_end]
      rfl
    · rw [if_neg low_end, if_neg low_end]
      by_cases high_end : p = 0x7F
      · rw [if_pos high_end, if_pos high_end]
        rfl
      · rw [if_neg high_end, if_neg high_end]
        bv_omega

/-- Settles O42: each edge and the address byte by its row. -/
theorem transactionFrame : Obligations.TransactionFrame := by
  intro s main
  have inMain := State.inMain_of main
  refine ⟨fun high => ?_, fun b address => ?_, fun low => ?_, nextPointer_toNat⟩
  · refine congrArg Host.Outcome.next ((if_pos high).trans (if_pos ?_))
    exact inMain
  · have event : exec (.addressByte b) s = .next (s.modifyWin fun w =>
        { w with txn := .data, reading := b.getLsbD 7, pointer := b.extractLsb' 0 7, sdo := if b.getLsbD 7 then some 0 else none }) :=
      congrArg Host.Outcome.next (if_pos ⟨inMain, address⟩)
    simp only [event, getLsbD_seven, pointerOf_byte, decide_eq_true_eq]
    rfl
  · refine congrArg Host.Outcome.next ((if_neg (by simp [low])).trans ((if_pos inMain).trans ?_))
    cases s.main.group <;> simp [State.setCauseIf, State.setCause, Window.endTransaction, main]

/-! ### Byte slots -/

/-- The register at the pointer. -/
theorem State.pointed_of {s : State} {a : BitVec 7} (pointer : s.main.win.pointer = a) :
    s.pointed = registerAt s.main.win.page a.toNat := by
  rw [State.pointed, pointer]

theorem State.latched_zero (s : State) : s.latched 0 = some [] := rfl

/-- The earlier bytes of the field at the pointer, where they stand in the latch (R169). -/
theorem State.latched_of {s : State} {a : BitVec 7} {k : Nat} {bytes : List Byte} (pointer : s.main.win.pointer = a) (later : k ≠ 0)
    (latch : s.main.win.latch = some ⟨a.toNat - k, bytes⟩) (length : bytes.length = k) : s.latched k = some bytes := by
  simp [State.latched, later, latch, State.fieldStart, pointer, length]

/-- A byte whose earlier bytes do not stand in the latch (R169). -/
theorem State.latched_none {s : State} {a : BitVec 7} {k : Nat} (pointer : s.main.win.pointer = a) (later : k ≠ 0)
    (stray : ∀ bytes, s.main.win.latch = some ⟨a.toNat - k, bytes⟩ → bytes.length ≠ k) : s.latched k = none := by
  rw [State.latched, if_neg later]
  cases latch : s.main.win.latch with
  | none => rfl
  | some l =>
    refine if_neg fun ⟨start, length⟩ => ?_
    rw [State.fieldStart, pointer] at start
    exact stray l.bytes (by rw [latch, ← start]) length

/-- The last byte of a field with its earlier bytes in the latch takes effect (R169). -/
theorem State.fieldWrite_slot {s : State} {a : BitVec 7} {r : Reg} {k : Nat} {earlier : List Byte} {select : Reg → Bool}
    (slot : s.writeSlot a) (here : registerAt s.main.win.page a.toNat = some (r, k)) (selected : select r = true)
    (last : k + 1 = r.width) (latched : s.latched k = some earlier) (b : Byte) (act : Reg → List Byte → State → State) :
    s.fieldWrite select b act = act r (earlier ++ [b]) (s.slotTaken (nextPointer a)) := by
  obtain ⟨_, _, _, pointer⟩ := id slot
  have pointed := (State.pointed_of pointer).trans here
  simp only [State.fieldWrite, pointed, State.writing_of_slot slot, selected, last, latched, State.slotTaken_eq pointer, and_self, if_true]

/-- The last byte of a field without its earlier bytes is ignored with WINDOW_FAULT (R169). -/
theorem State.fieldWrite_stray {s : State} {a : BitVec 7} {r : Reg} {k : Nat} {select : Reg → Bool}
    (slot : s.writeSlot a) (here : registerAt s.main.win.page a.toNat = some (r, k)) (selected : select r = true)
    (last : k + 1 = r.width) (latched : s.latched k = none) (b : Byte) (act : Reg → List Byte → State → State) :
    s.fieldWrite select b act = s.slotIgnored (nextPointer a) := by
  obtain ⟨main, _, _, pointer⟩ := id slot
  have pointed := (State.pointed_of pointer).trans here
  simp only [State.fieldWrite, pointed, State.writing_of_slot slot, selected, last, latched, State.slotIgnored_eq pointer main, and_self,
    if_true]

/-- COMMAND's second byte without the code in the latch is ignored with WINDOW_FAULT (R169). -/
theorem State.commandByte_stray {s : State} {a : BitVec 7} (slot : s.writeSlot a)
    (here : registerAt s.main.win.page a.toNat = some (.command, 1)) (latched : s.latched 1 = none) (select : Byte → Bool)
    (act : Byte → State → State) : s.commandByte select act = s.slotIgnored (nextPointer a) := by
  obtain ⟨main, _, _, pointer⟩ := id slot
  have pointed := (State.pointed_of pointer).trans here
  simp only [State.commandByte, pointed, State.writing_of_slot slot, latched, State.slotIgnored_eq pointer main, and_self, if_true]

/-- FIELD_LATCH_BYTE by the latch (R169). -/
theorem exec_fieldLatchByte {s : State} {a : BitVec 7} {r : Reg} {k : Nat} (slot : s.writeSlot a)
    (here : registerAt s.main.win.page a.toNat = some (r, k)) (writable : r.access ≠ .readOnly) (wide : 1 < r.width) (b : Byte) :
    (∀ earlier, s.latched k = some earlier → k + 1 < r.width → exec (.fieldLatchByte b) s = .next { s with main := { s.main with
      win := { s.main.win with latch := some ⟨a.toNat - k, earlier ++ [b]⟩, pointer := nextPointer a } } }) ∧
    (s.latched k = none → exec (.fieldLatchByte b) s = .next (s.slotIgnored (nextPointer a))) := by
  obtain ⟨main, _, _, pointer⟩ := id slot
  have pointed := (State.pointed_of pointer).trans here
  refine ⟨fun earlier latched inside => ?_, fun latched => ?_⟩
  · simp [exec, execFieldLatchByte, pointed, State.writing_of_slot slot, writable, wide, latched, inside, State.fieldStart,
      State.advance, State.modifyWin, pointer]
  · simp [exec, execFieldLatchByte, pointed, State.writing_of_slot slot, writable, wide, latched, State.slotIgnored_eq pointer main]

/-- A stray second byte of COMMAND is ignored in every command row (R169; log 18). -/
theorem exec_commandRows_stray {s : State} {a : BitVec 7} {b : Byte} (slot : s.writeSlot a)
    (here : registerAt s.main.win.page a.toNat = some (.command, 1)) (latched : s.latched 1 = none) {c : Instr}
    (row : c ∈ Reg.command.lastByteRows b) : exec c s = .next (s.slotIgnored (nextPointer a)) := by
  have stray (select : Byte → Bool) (act : Byte → State → State) := State.commandByte_stray slot here latched select act
  have ordinary (c : Cmd) : exec (c.row b) s = .next (s.slotIgnored (nextPointer a)) :=
    (exec_row c b s).trans (congrArg Host.Outcome.next (stray _ _))
  simp only [Reg.lastByteRows, List.mem_cons, List.not_mem_nil, or_false] at row
  rcases row with rfl | rfl | rfl | rfl | rfl | rfl | rfl | rfl | rfl | rfl | rfl | rfl | rfl | rfl
  · exact ordinary .timeLoad
  · exact ordinary .timeTrim
  · exact ordinary .configCommit
  · exact ordinary .configCancel
  · exact ordinary .configFetch
  · exact ordinary .forceClose
  · exact ordinary .snapshot
  · exact ordinary .totalsClear
  · exact ordinary .demandReset
  · exact ordinary .recordOpen
  · exact ordinary .recordRelease
  · exact ordinary .queueFlush
  · exact ordinary .softReset
  · exact congrArg Host.Outcome.next (stray _ _)

/-- A stray last byte of a field is ignored in each row of that field (R169; log 18). -/
theorem exec_lastByteRow_stray {s : State} {a : BitVec 7} {b : Byte} {r : Reg} {k : Nat} (slot : s.writeSlot a)
    (here : registerAt s.main.win.page a.toNat = some (r, k)) (later : k ≠ 0) (last : k + 1 = r.width)
    (stray : ∀ bytes, s.main.win.latch = some ⟨a.toNat - k, bytes⟩ → bytes.length ≠ k) {c : Instr} (row : c ∈ r.lastByteRows b) :
    exec c s = .next (s.slotIgnored (nextPointer a)) := by
  obtain ⟨_, _, _, pointer⟩ := id slot
  have latched := State.latched_none pointer later stray
  have ignored {select : Reg → Bool} (selected : select r = true) (act : Reg → List Byte → State → State) :=
    State.fieldWrite_stray slot here selected last latched b act
  cases r with
  | command =>
    obtain rfl : k = 1 := by simpa [Reg.width] using last
    exact exec_commandRows_stray slot here latched row
  | causeClear =>
    obtain rfl := List.mem_singleton.mp row
    exact congrArg Host.Outcome.next (ignored rfl _)
  | mask pin =>
    obtain rfl := List.mem_singleton.mp row
    exact congrArg Host.Outcome.next (ignored rfl _)
  | snapItem =>
    obtain rfl := List.mem_singleton.mp row
    exact congrArg Host.Outcome.next (ignored rfl _)
  | channel i f =>
    cases f with
    | offset | gain =>
      obtain rfl := List.mem_singleton.mp row
      exact congrArg Host.Outcome.next (ignored rfl _)
    | _ => exact absurd row List.not_mem_nil
  | _ => exact absurd row List.not_mem_nil

/-- Settles O44: the latch by what it holds; a stray last byte by the row that it arrives in. -/
theorem fieldLatchAndIgnoredBytes : Obligations.FieldLatchAndIgnoredBytes := by
  intro s a b slot
  obtain ⟨main, _, _, pointer⟩ := id slot
  refine ⟨fun r k here writable inside => ⟨fun first => ?_, fun bytes later latch length => ?_⟩,
    fun r k here writable later wide stray => ?_, fun r k here later last stray c row => ?_, fun unwritable => ?_⟩
  · subst first
    exact (exec_fieldLatchByte slot here writable (by omega) b).1 [] rfl inside
  · exact (exec_fieldLatchByte slot here writable (by omega) b).1 bytes (State.latched_of pointer later latch length) inside
  · exact (exec_fieldLatchByte slot here writable wide b).2 (State.latched_none pointer later stray)
  · exact exec_lastByteRow_stray slot here later last stray row
  · have ignored := State.slotIgnored_eq pointer main
    have writing := State.writing_of_slot slot
    rcases unwritable with unused | ⟨r, k, here, readOnly⟩
    · have pointed := (State.pointed_of pointer).trans unused
      simp [exec, execReadOnlyWrite, pointed, writing, ignored]
    · have pointed := (State.pointed_of pointer).trans here
      simp [exec, execReadOnlyWrite, pointed, writing, readOnly, ignored]

/-! ### RECORD_DATA -/

/-- Byte k of a word (R109). -/
theorem wordByte_eq (w : Word) {k : Nat} (h : k ≤ 3) : wordByte w k = (w >>> (8 * (3 - k))).setWidth 8 := by
  apply BitVec.eq_of_toNat_eq
  have listed : wordByte w k = BitVec.ofNat 8 (w.toNat >>> (8 * (3 - k))) := by interval_cases k <;> rfl
  simp [listed]

/-- At a streaming port the pointer stays (R167). -/
theorem State.advance_atPort {s : State} (port : s.main.win.pointer = 0x2C) : s.advance = s := by
  have stays : nextPointer s.main.win.pointer = s.main.win.pointer := by rw [port]; rfl
  rw [State.advance, State.modifyWin, stays]

/-- A read slot at RECORD_DATA sends the byte of the record (R109, R167). -/
theorem exec_recordDataRead_atPort {s : State} (slot : s.readSlot 0x2C) (kept : s.readRecordByte.2.main.win.pointer = 0x2C) :
    exec .recordDataRead s = .next (s.readRecordByte.2.modifyWin fun w => { w with sdo := some s.readRecordByte.1 }) := by
  obtain ⟨_, _, _, pointer⟩ := id slot
  have pointed : s.pointed = some (.recordData, 0) := by
    rw [State.pointed_of pointer]
    rfl
  have byte : s.readByte = s.readRecordByte := by simp [State.readByte, pointed]
  refine congrArg Host.Outcome.next ((if_pos (State.readingSlot_of_slot slot)).trans ?_)
  rw [byte]
  dsimp only
  rw [State.advance_atPort kept]

/-- Settles O41: the byte by the read status and the word position. -/
theorem recordDataBytes : Obligations.RecordDataBytes := by
  intro s slot
  obtain ⟨main, _, _, pointer⟩ := id slot
  refine ⟨fun k reading position inside => ?_, fun reading position => ?_, fun verdict => ?_, fun ended => ?_⟩
  · subst position
    have byte : s.readRecordByte =
        (wordByte s.queue.currentWord s.main.win.wordPos, s.modifyWin fun w => { w with wordPos := w.wordPos + 1 }) := by
      simp [State.readRecordByte, reading, Nat.ne_of_lt inside]
    rw [exec_recordDataRead_atPort slot (by rw [byte]; exact pointer), byte, wordByte_eq _ (by omega)]
    rfl
  · have byte : s.readRecordByte = (wordByte s.queue.currentWord 3,
        (State.modifyWin { s with queue := s.queue.deliver } fun w => { w with wordPos := 0 }).setCauseIf
          (s.queue.deliver.readStatus == .checkBad) .checkBad) := by
      simp [State.readRecordByte, reading, position]
    rw [exec_recordDataRead_atPort slot (by rw [byte, State.setCauseIf_main]; exact pointer), byte, wordByte_eq _ (by decide)]
    by_cases bad : s.queue.deliver.readStatus = .checkBad
    · simp only [bad, beq_self_eq_true, State.setCauseIf_true, if_true, State.setCause, State.modifyWin, main]
      rfl
    · have clear : (s.queue.deliver.readStatus == .checkBad) = false := beq_false_of_ne bad
      simp only [bad, clear, State.setCauseIf_false, if_false, State.modifyWin]
      rfl
  · have byte : s.readRecordByte = (0, { s with queue := { s.queue with readStatus := .pastEnd } }) := by
      rcases verdict with verdict | verdict <;> simp [State.readRecordByte, RecordQueue.readPastEnd, verdict]
    rw [exec_recordDataRead_atPort slot (by rw [byte]; exact pointer), byte]
    rfl
  · have byte : s.readRecordByte = (0, s) := by
      rcases ended with ended | ended <;> simp [State.readRecordByte, RecordQueue.readPastEnd, ended]
    rw [exec_recordDataRead_atPort slot (by rw [byte]; exact pointer), byte]
    rfl

/-! ### Registers of one byte -/

/-- A register of one byte takes the byte (R169). -/
theorem State.fieldWrite_byte {s : State} {a : BitVec 7} {r : Reg} {select : Reg → Bool} (slot : s.writeSlot a)
    (here : registerAt s.main.win.page a.toNat = some (r, 0)) (selected : select r = true) (single : r.width = 1) (b : Byte)
    (act : Reg → List Byte → State → State) : s.fieldWrite select b act = act r [b] (s.slotTaken (nextPointer a)) :=
  State.fieldWrite_slot slot here selected single.symm s.latched_zero b act

theorem State.setCause_windowFault {s : State} (main : s.monitor.supply = .main) (a : BitVec 7) :
    (s.slotTaken a).setCause .windowFault = (s.slotTaken a).faulted := State.setCause_inMain (by exact main) _

theorem pageOf_code {p : Page} {b : Byte} (code : p.code = b.toNat) : pageOf b = some p := by
  rw [pageOf, ← code]
  cases p <;> rfl

theorem pageOf_above {b : Byte} (above : 4 < b.toNat) : pageOf b = none := by
  unfold pageOf
  split
  case h_6 => rfl
  all_goals omega

/-- Settles O45: each select by its range. -/
theorem pageAndSlotSelects : Obligations.PageAndSlotSelects := by
  intro s b
  refine ⟨fun slot => ?_, fun slot page => ?_, fun slot page => ?_⟩
  · have write : exec (.pageWrite b) s = .next ((s.slotTaken 0x01).putPage b) :=
      congrArg Host.Outcome.next (State.fieldWrite_byte (r := .page) slot rfl rfl rfl b _)
    rw [write]
    refine ⟨fun p code => ?_, fun above => ?_⟩
    · simp only [State.putPage, pageOf_code code]
      rfl
    · simp only [State.putPage, pageOf_above above, State.setCause_windowFault slot.1]
  · have here : registerAt s.main.win.page 0x48 = some (.schedSlot, 0) := by rw [page]; rfl
    have write : exec (.slotSelectWrite b) s = .next ((s.slotTaken 0x49).putSelect .schedSlot b) :=
      congrArg Host.Outcome.next (State.fieldWrite_byte slot here rfl rfl b _)
    rw [write]
    refine ⟨fun i value => ?_, fun above => ?_⟩
    · simp only [State.putSelect, value, i.isLt, dif_pos]
      rfl
    · simp only [State.putSelect, Nat.not_lt.mpr above, dif_neg, not_false_eq_true, if_true, State.setCause_windowFault slot.1]
  · have here : registerAt s.main.win.page 0x40 = some (.specSlot, 0) := by rw [page]; rfl
    have write : exec (.slotSelectWrite b) s = .next ((s.slotTaken 0x41).putSelect .specSlot b) :=
      congrArg Host.Outcome.next (State.fieldWrite_byte slot here rfl rfl b _)
    rw [write]
    refine ⟨fun i value => ?_, fun above => ?_⟩
    · simp only [State.putSelect, value, i.isLt, dif_pos]
      rfl
    · simp only [State.putSelect, Nat.not_lt.mpr above, dif_neg, not_false_eq_true, State.setCause_windowFault slot.1]
      rfl

/-! ### The registers of the event unit -/

theorem causeSet_pair (hi lo : Byte) : causeSet [hi, lo] = (hi ++ lo).setWidth 12 := by
  apply BitVec.eq_of_toNat_eq
  simp [causeSet, beNat, toNat_append_byte]

theorem modeOf_code {m : OutputMode} {b : Byte} (code : m.code = b.toNat) : modeOf b = some m := by
  rw [modeOf, ← code]
  cases m <;> rfl

theorem modeOf_above {b : Byte} (above : 4 ≤ b.toNat) : modeOf b = none := by
  unfold modeOf
  split
  case h_5 => rfl
  all_goals omega

/-- A register of two bytes takes the latched byte and the last one (R169). -/
theorem State.fieldWrite_pair {s : State} {a : BitVec 7} {r : Reg} {select : Reg → Bool} {first : Byte} (slot : s.writeSlot a)
    (here : registerAt s.main.win.page a.toNat = some (r, 1)) (selected : select r = true) (double : r.width = 2)
    (latch : s.main.win.latch = some ⟨a.toNat - 1, [first]⟩) (b : Byte) (act : Reg → List Byte → State → State) :
    s.fieldWrite select b act = act r [first, b] (s.slotTaken (nextPointer a)) := by
  obtain ⟨_, _, _, pointer⟩ := id slot
  exact State.fieldWrite_slot slot here selected double.symm (State.latched_of pointer (by decide) latch rfl) b act

/-- Settles O47: each register by its bytes. -/
theorem eventUnitRegisters : Obligations.EventUnitRegisters := by
  intro s hi lo
  have set := causeSet_pair hi lo
  refine ⟨fun slot latch => ?_, fun slot latch => ?_, fun slot latch => ?_, fun m code => ⟨fun slot => ?_, fun slot => ?_⟩,
    fun above => ⟨fun slot => ?_, fun slot => ?_⟩⟩
  · refine congrArg Host.Outcome.next ((State.fieldWrite_pair (r := .causeClear) slot rfl rfl rfl latch lo _).trans ?_)
    rw [set]
    rfl
  · refine congrArg Host.Outcome.next ((State.fieldWrite_pair (r := .mask .a) slot rfl rfl rfl latch lo _).trans ?_)
    rw [set]
    rfl
  · refine congrArg Host.Outcome.next ((State.fieldWrite_pair (r := .mask .b) slot rfl rfl rfl latch lo _).trans ?_)
    rw [set]
    rfl
  · refine congrArg Host.Outcome.next ((State.fieldWrite_byte (r := .mode .a) slot rfl rfl rfl lo _).trans ?_)
    simp only [State.putMode, modeOf_code code]
    rfl
  · refine congrArg Host.Outcome.next ((State.fieldWrite_byte (r := .mode .b) slot rfl rfl rfl lo _).trans ?_)
    simp only [State.putMode, modeOf_code code]
    rfl
  · refine congrArg Host.Outcome.next ((State.fieldWrite_byte (r := .mode .a) slot rfl rfl rfl lo _).trans ?_)
    simp only [State.putMode, modeOf_above above, State.setCause_windowFault slot.1]
    rfl
  · refine congrArg Host.Outcome.next ((State.fieldWrite_byte (r := .mode .b) slot rfl rfl rfl lo _).trans ?_)
    simp only [State.putMode, modeOf_above above, State.setCause_windowFault slot.1]
    rfl

/-! ### The registers of the other owners -/

/-- A time load field takes its byte and reads it back among the others (R50). -/
theorem exec_registerWrite {s : State} {i : Nat} (h : i < 6) {b : Byte} (slot : s.writeSlot (BitVec.ofNat 7 (0x18 + i))) :
    (s.main.timeLoad.put (.timeLoad i) b).bytes = s.main.timeLoad.bytes.set i b ∧ exec (.registerWrite b) s = .next { s with
      main := { (s.slotTaken (BitVec.ofNat 7 (0x19 + i))).main with timeLoad := s.main.timeLoad.put (.timeLoad i) b } } := by
  have write := State.fieldWrite_byte (r := .timeLoad i) (select := Reg.isTimeLoad) slot (by interval_cases i <;> rfl) rfl rfl b
    fun r _ s => { s with main := { s.main with timeLoad := s.main.timeLoad.put r b } }
  have next : nextPointer (BitVec.ofNat 7 (0x18 + i)) = BitVec.ofNat 7 (0x19 + i) := by interval_cases i <;> rfl
  rw [next] at write
  exact ⟨by interval_cases i <;> rfl, congrArg Host.Outcome.next write⟩

/-- Settles O48: each register by the values that it takes. -/
theorem ownerRegisters : Obligations.OwnerRegisters := by
  intro s b
  refine ⟨fun slot => ?_, fun slot => ?_, fun channel slot page latch => ?_, fun i inside slot => ⟨_, exec_registerWrite inside slot⟩⟩
  · have write : exec (.queuePolicyWrite b) s = .next (if b = 0 then { s.slotTaken 0x29 with queue := { s.queue with overwrite := false } }
        else if b = 1 then { s.slotTaken 0x29 with queue := { s.queue with overwrite := true } }
        else (s.slotTaken 0x29).setCause .windowFault) :=
      congrArg Host.Outcome.next (State.fieldWrite_byte (r := .queuePolicy) slot rfl rfl rfl b _)
    rw [write]
    refine ⟨fun zero => by rw [if_pos zero], fun one => by rw [one]; rfl, fun above => ?_⟩
    have not_zero : b ≠ 0 := by rintro rfl; exact absurd above (by decide)
    have not_one : b ≠ 1 := by rintro rfl; exact absurd above (by decide)
    rw [if_neg not_zero, if_neg not_one, State.setCause_windowFault slot.1]
  · exact congrArg Host.Outcome.next (State.fieldWrite_byte (r := .levelThreshold) slot rfl rfl rfl b _)
  · have here : registerAt s.main.win.page 0x4C = some (.snapItem, 1) := by rw [page]; rfl
    have write : exec (.snapItemWrite b) s = .next ((s.slotTaken 0x4D).putSnapItem channel.toNat b.toNat) :=
      congrArg Host.Outcome.next (State.fieldWrite_pair slot here rfl rfl latch b _)
    rw [write]
    refine ⟨fun c t isChannel isTariff => ?_, fun above => ?_⟩
    · rw [State.putSnapItem, dif_pos ⟨isChannel ▸ c.isLt, isTariff ▸ t.isLt⟩]
      simp only [isChannel, isTariff]
      rfl
    · rw [State.putSnapItem, dif_neg (by omega), State.setCause_windowFault slot.1]

end Sys2Proof.Machine
end

section
/-! SUPPORT. The register map (R172) and the fields of the staged set (R133, R134). -/

namespace Sys2Proof.Machine

/-! ### Bytes and numbers -/

theorem bigEndian_lt : ∀ bytes : List Byte, bigEndian bytes < 256 ^ bytes.length
  | [] => by decide
  | b :: bytes => by
    have rest := bigEndian_lt bytes
    have most : b.toNat * 256 ^ bytes.length ≤ 255 * 256 ^ bytes.length := Nat.mul_le_mul_right _ (Nat.le_of_lt_succ b.isLt)
    rw [bigEndian_cons, List.length_cons, Nat.pow_succ]
    omega

/-- Bytes of the same number and length are the same. -/
theorem bigEndian_inj : ∀ {xs ys : List Byte}, xs.length = ys.length → bigEndian xs = bigEndian ys → xs = ys
  | [], [], _, _ => rfl
  | x :: xs, y :: ys, length, same => by
    have length : xs.length = ys.length := Nat.succ.inj length
    rw [bigEndian_cons, bigEndian_cons, length] at same
    have hx := bigEndian_lt xs
    have hy := bigEndian_lt ys
    rw [length] at hx
    have heads := congrArg (· / 256 ^ ys.length) same
    have tails := congrArg (· % 256 ^ ys.length) same
    simp only [Nat.mul_add_mod', Nat.mod_eq_of_lt hx, Nat.mod_eq_of_lt hy] at tails
    simp only [Nat.mul_comm _ (256 ^ ys.length), Nat.mul_add_div (Nat.pow_pos (n := ys.length) (show 0 < 256 by decide)),
      Nat.div_eq_of_lt hx, Nat.div_eq_of_lt hy, Nat.add_zero] at heads
    rw [BitVec.eq_of_toNat_eq heads, bigEndian_inj length tails]

theorem beNat_eq (bytes : List Byte) : beNat bytes = bigEndian bytes := by
  simp only [beNat, bigEndian, Nat.mul_comm]

/-- The bytes of the number that bytes give are those bytes. -/
theorem beBytes_beNat (bytes : List Byte) : beBytes bytes.length (beNat bytes) = bytes := by
  refine bigEndian_inj (beBytes_length _ _) ?_
  rw [bigEndian_beBytes, beNat_eq, Nat.mod_eq_of_lt (bigEndian_lt bytes)]

/-! ### The register map -/

/-- A register's page, for the registers of the staged set, and the range of a slot's field (Table 57). -/
def Reg.onPage (r : Reg) (p : Page) : Prop :=
  match r with
  | .channel _ _ => p = .channels
  | .dayType _ | .defaultTariff => p = .schedule
  | .schedField i => p = .schedule ∧ i < 5
  | .specField i => p = .specialDays ∧ i < 6
  | _ => True

/-- Below 0x40 the only register of the staged set is LENGTH, and every byte lies within its register. -/
theorem fixedRegister_spec : ∀ a < 0x40, ∀ x ∈ fixedRegister a, (x.1.staged = true → x.1 = .length) ∧ x.2 < x.1.width := by
  decide

theorem channelField_lt : ∀ k < 10, (channelField k).2 < (channelField k).1.width := by decide

theorem liveRegister_spec {o : Nat} {r : Reg} {k : Nat} (h : liveRegister o = some (r, k)) : k < r.width ∧ r.onPage .live := by
  unfold liveRegister at h
  split_ifs at h <;> cases h <;> refine ⟨?_, trivial⟩ <;> simp only [Reg.width] <;> omega

theorem channelsRegister_spec {o : Nat} {r : Reg} {k : Nat} (h : channelsRegister o = some (r, k)) :
    k < r.width ∧ r.onPage .channels := by
  unfold channelsRegister at h
  split at h
  · cases h
    exact ⟨channelField_lt _ (Nat.mod_lt _ (by decide)), rfl⟩
  · cases h

theorem scheduleRegister_spec {o : Nat} {r : Reg} {k : Nat} (h : scheduleRegister o = some (r, k)) :
    k < r.width ∧ r.onPage .schedule := by
  unfold scheduleRegister at h
  split_ifs at h <;> cases h
  case pos => exact ⟨Nat.one_pos, rfl⟩
  case pos => exact ⟨Nat.one_pos, rfl⟩
  case pos => exact ⟨Nat.one_pos, trivial⟩
  case pos => exact ⟨Nat.one_pos, rfl, by omega⟩

theorem specialsRegister_spec {o : Nat} {r : Reg} {k : Nat} (h : specialsRegister o = some (r, k)) :
    k < r.width ∧ r.onPage .specialDays := by
  unfold specialsRegister at h
  split_ifs at h <;> cases h
  · exact ⟨Nat.one_pos, trivial⟩
  · exact ⟨Nat.one_pos, rfl, by omega⟩

theorem snapshotRegister_spec {o : Nat} {r : Reg} {k : Nat} (h : snapshotRegister o = some (r, k)) :
    k < r.width ∧ r.onPage .snapshot := by
  unfold snapshotRegister at h
  split_ifs at h <;> cases h <;> refine ⟨?_, trivial⟩ <;> simp only [Reg.width] <;> omega

/-- Every byte of a page lies within its register, and the registers of the staged set stand on their own pages. -/
theorem registerAt_page {p : Page} {a : Nat} {r : Reg} {k : Nat} (high : ¬ a < 0x40) (h : registerAt p a = some (r, k)) :
    k < r.width ∧ r.onPage p := by
  unfold registerAt at h
  rw [if_neg high] at h
  cases p with
  | live => exact liveRegister_spec h
  | channels => exact channelsRegister_spec h
  | schedule => exact scheduleRegister_spec h
  | specialDays => exact specialsRegister_spec h
  | snapshot => exact snapshotRegister_spec h

theorem registerAt_fixed {p : Page} {a : Nat} {r : Reg} {k : Nat} (low : a < 0x40) (h : registerAt p a = some (r, k)) :
    (r.staged = true → r = .length) ∧ k < r.width := by
  unfold registerAt at h
  rw [if_pos low] at h
  exact fixedRegister_spec a low _ h

/-- Every byte of the window lies within its register (R172). -/
theorem registerAt_lt {p : Page} {a : Nat} {r : Reg} {k : Nat} (h : registerAt p a = some (r, k)) : k < r.width := by
  by_cases low : a < 0x40
  · exact (registerAt_fixed low h).2
  · exact (registerAt_page low h).1

/-- A register of the staged set is LENGTH or stands on its own page (R133). -/
theorem registerAt_staged {p : Page} {a : Nat} {r : Reg} {k : Nat} (h : registerAt p a = some (r, k)) (staged : r.staged = true) :
    r.onPage p ∧ (r = .length ∨ 0x40 ≤ a) := by
  by_cases low : a < 0x40
  · obtain rfl := (registerAt_fixed low h).1 staged
    exact ⟨trivial, .inl rfl⟩
  · exact ⟨(registerAt_page low h).2, .inr (Nat.not_lt.mp low)⟩

/-! ### One field written -/

/-- A field reads back the bytes written to it (R133). -/
theorem ChannelEntry.fieldBytes_put (e : ChannelEntry) {f : ChannelField} {bytes : List Byte} (length : bytes.length = f.width) :
    (e.put f bytes).fieldBytes f = bytes := by
  have spelled := beBytes_beNat bytes
  rw [length] at spelled
  cases f with
  | offset =>
    have fits : beNat bytes < 2 ^ 24 := by
      have := bigEndian_lt bytes
      rwa [← beNat_eq, length] at this
    rw [ChannelEntry.put, ChannelEntry.fieldBytes, BitVec.toNat_ofNat, Nat.mod_eq_of_lt fits]
    exact spelled
  | gain =>
    have fits : beNat bytes < 2 ^ 16 := by
      have := bigEndian_lt bytes
      rwa [← beNat_eq, length] at this
    rw [ChannelEntry.put, ChannelEntry.fieldBytes, BitVec.toNat_ofNat, Nat.mod_eq_of_lt fits]
    exact spelled
  | _ =>
    obtain ⟨b, rfl⟩ := List.length_eq_one_iff.mp length
    rfl

/-- The other fields of a channel entry stay (R133). -/
theorem ChannelEntry.fieldBytes_put_other (e : ChannelEntry) {f g : ChannelField} (other : g ≠ f) (bytes : List Byte) :
    (e.put f bytes).fieldBytes g = e.fieldBytes g := by
  cases f <;> cases g
  all_goals try rfl
  all_goals exact absurd rfl other

theorem SchedSlot.bytes_put (x : SchedSlot) {i : Nat} (h : i < 5) (b : Byte) : (x.put i b).bytes = x.bytes.set i b := by
  interval_cases i <;> rfl

theorem SpecSlot.bytes_put (x : SpecSlot) {i : Nat} (h : i < 6) (b : Byte) : (x.put i b).bytes = x.bytes.set i b := by
  interval_cases i <;> rfl

/-- The bytes of a slot with one replaced. -/
theorem getD_set (xs : List Byte) {i : Nat} (h : i < xs.length) (j : Nat) (b : Byte) :
    (xs.set i b).getD j 0 = if j = i then b else xs.getD j 0 := by
  by_cases same : j = i
  · subst same
    simp [h]
  · simp [same, List.getD_eq_getElem?_getD, List.getElem?_set_ne (Ne.symm same)]

/-- An entry of a table with one replaced. -/
theorem vector_set_get {α : Type} {n : Nat} (v : Vector α n) (i j : Fin n) (x : α) : (v.set i x)[j] = if j = i then x else v[j] := by
  by_cases same : j = i
  · subst same
    simp
  · rw [if_neg same]
    exact Vector.getElem_set_ne _ _ fun h => same (Fin.ext h.symm)

/-- The bytes of a register of the staged set, of a set and the selected slots (R133, R171). -/
def ConfigSet.bytesOf (c : ConfigSet) (w : Window) : Reg → List Byte
  | .length => [c.lengthCode]
  | .channel i f => c.channels[i].fieldBytes f
  | .dayType i => [c.dayTypes[i]]
  | .defaultTariff => [c.defaultTariff]
  | .schedField i => [c.schedule[w.schedSlot].bytes.getD i 0]
  | .specField i => [c.specials[w.specSlot].bytes.getD i 0]
  | _ => []

theorem State.regBytes_staged (s : State) {r : Reg} (staged : r.staged = true) :
    s.regBytes r = s.cfg.staged.bytesOf s.main.win r := by
  cases r with
  | length | channel _ _ | dayType _ | defaultTariff | schedField _ | specField _ => rfl
  | _ => cases staged

/-- A written register of the staged set reads back its bytes (R133). -/
theorem ConfigSet.bytesOf_put (c : ConfigSet) (w : Window) {r : Reg} {p : Page} {bytes : List Byte} (staged : r.staged = true)
    (page : r.onPage p) (length : bytes.length = r.width) : (c.put w r bytes).bytesOf w r = bytes := by
  cases r with
  | channel i f =>
    rw [ConfigSet.put, ConfigSet.bytesOf, vector_set_get, if_pos rfl]
    exact ChannelEntry.fieldBytes_put _ length
  | length | defaultTariff =>
    obtain ⟨b, rfl⟩ := List.length_eq_one_iff.mp length
    rfl
  | dayType i =>
    obtain ⟨b, rfl⟩ := List.length_eq_one_iff.mp length
    rw [ConfigSet.put, ConfigSet.bytesOf, vector_set_get, if_pos rfl]
    rfl
  | schedField i =>
    obtain ⟨b, rfl⟩ := List.length_eq_one_iff.mp length
    obtain ⟨-, field⟩ := page
    rw [ConfigSet.put, ConfigSet.bytesOf, vector_set_get, if_pos rfl, SchedSlot.bytes_put _ field, getD_set _ (by exact field), if_pos rfl]
    rfl
  | specField i =>
    obtain ⟨b, rfl⟩ := List.length_eq_one_iff.mp length
    obtain ⟨-, field⟩ := page
    rw [ConfigSet.put, ConfigSet.bytesOf, vector_set_get, if_pos rfl, SpecSlot.bytes_put _ field, getD_set _ (by exact field), if_pos rfl]
    rfl
  | _ => cases staged

/-- Every other register of the staged set stays (R133). -/
theorem ConfigSet.bytesOf_put_other (c : ConfigSet) (w : Window) {r r' : Reg} {p : Page} (page : r.onPage p) (other : r' ≠ r)
    (bytes : List Byte) : (c.put w r bytes).bytesOf w r' = c.bytesOf w r' := by
  cases r with
  | length =>
    cases r' with
    | length => exact absurd rfl other
    | _ => rfl
  | defaultTariff =>
    cases r' with
    | defaultTariff => exact absurd rfl other
    | _ => rfl
  | channel i f =>
    cases r' with
    | channel j g =>
      rw [ConfigSet.put, ConfigSet.bytesOf, vector_set_get]
      split_ifs with same
      · subst same
        exact ChannelEntry.fieldBytes_put_other _ (fun h => other (congrArg (Reg.channel _) h)) bytes
      · rfl
    | _ => rfl
  | dayType i =>
    cases r' with
    | dayType j =>
      rw [ConfigSet.put, ConfigSet.bytesOf, vector_set_get, if_neg fun h => other (congrArg Reg.dayType h)]
      rfl
    | _ => rfl
  | schedField i =>
    cases r' with
    | schedField j =>
      obtain ⟨-, field⟩ := page
      rw [ConfigSet.put, ConfigSet.bytesOf, vector_set_get, if_pos rfl, SchedSlot.bytes_put _ field, getD_set _ (by exact field),
        if_neg fun h => other (congrArg Reg.schedField h)]
      rfl
    | _ => rfl
  | specField i =>
    cases r' with
    | specField j =>
      obtain ⟨-, field⟩ := page
      rw [ConfigSet.put, ConfigSet.bytesOf, vector_set_get, if_pos rfl, SpecSlot.bytes_put _ field, getD_set _ (by exact field),
        if_neg fun h => other (congrArg Reg.specField h)]
      rfl
    | _ => rfl
  | _ => rfl

/-- A field leaves the tables of the set that its page does not show, and the slots that are not selected (R133, R171). -/
theorem ConfigSet.put_elsewhere (c : ConfigSet) (w : Window) {r : Reg} {p : Page} (page : r.onPage p) (bytes : List Byte) :
    (∀ i : Fin 20, i ≠ w.schedSlot ∨ p ≠ .schedule → (c.put w r bytes).schedule[i] = c.schedule[i]) ∧
    (∀ i : Fin 16, i ≠ w.specSlot ∨ p ≠ .specialDays → (c.put w r bytes).specials[i] = c.specials[i]) ∧
    (p ≠ .channels ∨ r = .length → (c.put w r bytes).channels = c.channels) ∧
    (p ≠ .schedule ∨ r = .length → (c.put w r bytes).dayTypes = c.dayTypes ∧ (c.put w r bytes).defaultTariff = c.defaultTariff) := by
  cases r with
  | channel i f =>
    refine ⟨fun _ _ => rfl, fun _ _ => rfl, fun elsewhere => ?_, fun _ => ⟨rfl, rfl⟩⟩
    rcases elsewhere with h | h
    · exact absurd page h
    · cases h
  | dayType i =>
    refine ⟨fun _ _ => rfl, fun _ _ => rfl, fun _ => rfl, fun elsewhere => ?_⟩
    rcases elsewhere with h | h
    · exact absurd page h
    · cases h
  | defaultTariff =>
    refine ⟨fun _ _ => rfl, fun _ _ => rfl, fun _ => rfl, fun elsewhere => ?_⟩
    rcases elsewhere with h | h
    · exact absurd page h
    · cases h
  | schedField i =>
    refine ⟨fun j elsewhere => ?_, fun _ _ => rfl, fun _ => rfl, fun _ => ⟨rfl, rfl⟩⟩
    obtain ⟨onSchedule, -⟩ := page
    exact (vector_set_get _ _ _ _).trans (if_neg (elsewhere.resolve_right fun h => h onSchedule))
  | specField i =>
    refine ⟨fun _ _ => rfl, fun j elsewhere => ?_, fun _ => rfl, fun _ => ⟨rfl, rfl⟩⟩
    obtain ⟨onSpecials, -⟩ := page
    exact (vector_set_get _ _ _ _).trans (if_neg (elsewhere.resolve_right fun h => h onSpecials))
  | _ => exact ⟨fun _ _ => rfl, fun _ _ => rfl, fun _ => rfl, fun _ => ⟨rfl, rfl⟩⟩

/-- Settles O46: the field by its bytes, every other register by the part of the set that it shows. -/
theorem stagedFieldWrites : Obligations.StagedFieldWrites := by
  intro s a r k earlier b slot here staged last gathered
  obtain ⟨main, _, _, pointer⟩ := id slot
  obtain ⟨page, high⟩ := registerAt_staged here staged
  have latched : s.latched k = some earlier := by
    rcases gathered with ⟨rfl, rfl⟩ | ⟨later, latch, length⟩
    · rfl
    · exact State.latched_of pointer later latch length
  have length : (earlier ++ [b]).length = r.width := by
    rcases gathered with ⟨rfl, rfl⟩ | ⟨_, _, length⟩
    · exact last
    · rw [List.length_append, length, List.length_singleton, last]
  have write : exec (.stagedFieldWrite b) s = .next ((s.slotTaken (nextPointer a)).putStaged r (earlier ++ [b])) :=
    congrArg Host.Outcome.next (State.fieldWrite_slot slot here staged last latched b _)
  rw [write]
  refine ⟨fun free => ⟨s.cfg.staged.put s.main.win r (earlier ++ [b]), ?_⟩, fun frozen => ?_⟩
  · obtain ⟨schedule, specials, channels, days⟩ := s.cfg.staged.put_elsewhere s.main.win page (earlier ++ [b])
    refine ⟨congrArg Host.Outcome.next (if_neg (by simpa [State.slotTaken] using free)), ?_, fun a' r' k' _ other => ?_, schedule, specials,
      fun elsewhere => channels (elsewhere.imp_right fun low => high.resolve_right (by omega)),
      fun elsewhere => days (elsewhere.imp_right fun low => high.resolve_right (by omega))⟩
    · rw [State.regBytes_staged _ staged]
      exact ConfigSet.bytesOf_put _ _ staged page length
    · by_cases staged' : r'.staged = true
      · rw [State.regBytes_staged _ staged', State.regBytes_staged _ staged']
        exact ConfigSet.bytesOf_put_other _ _ page other _
      · cases r' with
        | length | channel _ _ | dayType _ | defaultTariff | schedField _ | specField _ => exact absurd rfl staged'
        | _ => rfl
  · rw [State.putStaged, if_pos (by exact frozen), State.setCause_windowFault main]

end Sys2Proof.Machine
end

section
/-! SUPPORT. What a read slot sends (R168, R49) and what each register reads as (R172, Tables 56 and 57). -/

namespace Sys2Proof.Machine

/-! ### Read slots -/

/-- A read slot sends the byte at the pointer, and the pointer moves on (R166, R168). -/
theorem exec_readSlot {s s' : State} {a : BitVec 7} {b : Byte} (slot : s.readSlot a) (byte : s.readByte = (b, s'))
    (kept : s'.main.win.pointer = a) :
    exec .recordDataRead s = .next (s'.modifyWin fun w => { w with pointer := nextPointer a, sdo := some b }) := by
  refine congrArg Host.Outcome.next ((if_pos (State.readingSlot_of_slot slot)).trans ?_)
  rw [byte]
  simp [State.advance, State.modifyWin, kept]

theorem State.readByte_of {s : State} {r : Reg} {k : Nat} (pointed : s.pointed = some (r, k)) (other : r ≠ .recordData) :
    s.readByte = ((s.captured r k).1.getD k 0, (s.captured r k).2) := by
  simp [State.readByte, pointed, other]

theorem State.captured_single (s : State) {r : Reg} (single : r.width = 1) (k : Nat) : s.captured r k = (s.regBytes r, s) := by
  have other : r ≠ .calendar := by
    rintro rfl
    cases single
  rw [State.captured, if_neg other, if_pos single]

/-- The first byte of a field captures the field (R168). -/
theorem State.captured_first (s : State) {r : Reg} (wide : 1 < r.width) (other : r ≠ .calendar) : s.captured r 0 =
    (s.regBytes r, s.modifyWin fun w => { w with capture := some ⟨s.main.win.pointer.toNat, s.regBytes r⟩ }) := by
  rw [State.captured, if_neg other, if_neg (by omega)]
  cases s.main.win.capture <;> simp [State.fieldStart]

/-- A later byte comes from the capture (R168). -/
theorem State.captured_later {s : State} {r : Reg} {k : Nat} {bytes : List Byte} (wide : 1 < r.width) (later : k ≠ 0)
    (other : r ≠ .calendar) (capture : s.main.win.capture = some ⟨s.main.win.pointer.toNat - k, bytes⟩) :
    s.captured r k = (bytes, s) := by
  simp [State.captured, other, Nat.ne_of_gt wide, capture, later, State.fieldStart]

/-- The calendar image is captured once in a transaction (R49). -/
theorem State.captured_calendar_first {s : State} (fresh : s.main.win.calImage = none) (k : Nat) : s.captured .calendar k =
    (s.regBytes .calendar, s.modifyWin fun w => { w with calImage := some (s.regBytes .calendar) }) := by
  simp [State.captured, fresh]

theorem State.captured_calendar_later {s : State} {bytes : List Byte} (held : s.main.win.calImage = some bytes) (k : Nat) :
    s.captured .calendar k = (bytes, s) := by
  simp [State.captured, held]

/-! ### Shown registers -/

/-- A register of one byte shows the number of its byte. -/
theorem State.showsNumber_single {s : State} {p : Page} {a n : Nat} {access : Access} (r : Reg) (byte : Byte)
    (bytes : s.regBytes r = [byte]) (number : byte.toNat = n % 256) (single : r.width = 1) (rights : r.access = access)
    (here : registerAt p a = some (r, 0)) : s.showsNumber p a access 1 n := by
  rw [← rights, ← single]
  refine State.showsNumber_of r ?_ (by rw [bytes, single]; rfl) fun k inside => ?_
  · rw [bytes, bigEndian_byte, single, number]
    simp
  · obtain rfl : k = 0 := by omega
    exact here

/-- A register of two bytes shows the number that its bytes are of. -/
theorem State.showsNumber_pair {s : State} {p : Page} {a n : Nat} {access : Access} (r : Reg) (bytes : s.regBytes r = beBytes 2 n)
    (double : r.width = 2) (rights : r.access = access) (first : registerAt p a = some (r, 0))
    (second : registerAt p (a + 1) = some (r, 1)) : s.showsNumber p a access 2 n := by
  rw [← rights, ← double]
  refine State.showsNumber_of r ?_ (by rw [bytes, double]; rfl) fun k inside => ?_
  · rw [bytes, bigEndian_beBytes, double]
  · rw [double] at inside
    interval_cases k
    · exact first
    · exact second

theorem byteOf_toNat (n : Nat) : (byteOf n).toNat = n % 256 := by simp [byteOf]

/-- A register that holds the byte of a number. -/
theorem State.showsNumber_byteOf {s : State} {p : Page} {a n : Nat} {access : Access} (r : Reg) (bytes : s.regBytes r = [byteOf n])
    (single : r.width = 1) (rights : r.access = access) (here : registerAt p a = some (r, 0)) : s.showsNumber p a access 1 n :=
  State.showsNumber_single r _ bytes (byteOf_toNat n) single rights here

/-- A register that holds a byte as it was written. -/
theorem State.showsNumber_byte {s : State} {p : Page} {a : Nat} {b : Byte} {access : Access} (r : Reg) (bytes : s.regBytes r = [b])
    (single : r.width = 1) (rights : r.access = access) (here : registerAt p a = some (r, 0)) : s.showsNumber p a access 1 b.toNat :=
  State.showsNumber_single r b bytes (Nat.mod_eq_of_lt b.isLt).symm single rights here

/-- A register shows its bytes, each at its own address. -/
theorem State.shows_of {s : State} {p : Page} {a : Nat} {access : Access} {bytes : List Byte} (r : Reg) (same : s.regBytes r = bytes)
    (width : r.width = bytes.length) (rights : r.access = access) (here : ∀ k < bytes.length, registerAt p (a + k) = some (r, k)) :
    s.shows p a access bytes := ⟨r, rights, width, same, here⟩

/-! ### The fixed registers -/

/-- The bits of STATUS, in the order of Table 56. -/
theorem status_bits : ∀ start valid pending busy hold waiting : Bool,
    let b : Byte := bit start ++ bit valid ++ bit pending ++ bit busy ++ bit hold ++ bit waiting ++ 0#2
    b.getLsbD 7 = start ∧ b.getLsbD 6 = valid ∧ b.getLsbD 5 = pending ∧ b.getLsbD 4 = busy ∧ b.getLsbD 3 = hold ∧
      b.getLsbD 2 = waiting ∧ b.getLsbD 1 = false ∧ b.getLsbD 0 = false := by decide

theorem State.fixedNumbers_shown (s : State) (p : Page) : ∀ x ∈ s.fixedNumbers, s.showsNumber p x.1 x.2.1 x.2.2.1 x.2.2.2 := by
  simp only [State.fixedNumbers, List.forall_mem_cons, List.not_mem_nil, false_implies, implies_true, and_true]
  exact
    ⟨State.showsNumber_byteOf .page rfl rfl rfl rfl,
     State.showsNumber_pair .command rfl rfl rfl rfl rfl,
     State.showsNumber_pair .pendingSet rfl rfl rfl rfl rfl,
     State.showsNumber_pair .causeClear rfl rfl rfl rfl rfl,
     State.showsNumber_pair (.mask .a) rfl rfl rfl rfl rfl,
     State.showsNumber_byteOf (.mode .a) rfl rfl rfl rfl,
     State.showsNumber_pair (.mask .b) rfl rfl rfl rfl rfl,
     State.showsNumber_byteOf (.mode .b) rfl rfl rfl rfl,
     State.showsNumber_byte (.timeLoad 0) rfl rfl rfl rfl,
     State.showsNumber_byte (.timeLoad 1) rfl rfl rfl rfl,
     State.showsNumber_byte (.timeLoad 2) rfl rfl rfl rfl,
     State.showsNumber_byte (.timeLoad 3) rfl rfl rfl rfl,
     State.showsNumber_byte (.timeLoad 4) rfl rfl rfl rfl,
     State.showsNumber_byte (.timeLoad 5) rfl rfl rfl rfl,
     State.showsNumber_byte .length rfl rfl rfl rfl,
     State.showsNumber_pair .recordCount rfl rfl rfl rfl rfl,
     State.showsNumber_pair .usedWords rfl rfl rfl rfl rfl,
     State.showsNumber_pair .lostCount rfl rfl rfl rfl rfl,
     State.showsNumber_byteOf .readStatus rfl rfl rfl rfl,
     State.showsNumber_byteOf .queuePolicy rfl rfl rfl rfl,
     State.showsNumber_byte .levelThreshold rfl rfl rfl rfl,
     State.showsNumber_byteOf .queueFill rfl rfl rfl rfl,
     State.showsNumber_byte .sampleEntry rfl rfl rfl rfl⟩

/-- A register of several bytes that shows a number in each of them. -/
theorem State.showsEach_of {s : State} {p : Page} {a : Nat} {access : Access} {ns : List Nat} (r : Reg)
    (numbers : (s.regBytes r).map BitVec.toNat = ns.map (· % 256)) (width : r.width = ns.length) (rights : r.access = access)
    (here : ∀ k < ns.length, registerAt p (a + k) = some (r, k)) : s.showsEach p a access ns := by
  have length : (s.regBytes r).length = ns.length := by simpa using congrArg List.length numbers
  exact ⟨s.regBytes r, State.shows_of r rfl (width.trans length.symm) rights (length ▸ here), numbers⟩

/-- The fixed registers under every page (Table 56). -/
theorem State.fixedRegisters_shown (s : State) (p : Page) : s.fixedRegistersShown p := by
  refine ⟨s.fixedNumbers_shown p, ⟨s.statusByte, ?_, status_bits _ _ _ _ _ _⟩, ?_, ?_, ?_, rfl, rfl, ?_⟩
  · refine State.shows_of .status rfl rfl rfl fun k inside => ?_
    obtain rfl : k = 0 := by simpa using inside
    rfl
  · refine State.showsEach_of .cmdResult ?_ rfl rfl fun k inside => ?_
    · simp [State.regBytes, byteOf_toNat, Nat.mod_eq_of_lt s.main.cmd.resultCode.isLt]
    · simp only [List.length_cons, List.length_nil] at inside
      interval_cases k <;> rfl
  · refine State.showsEach_of .calendar ?_ rfl rfl fun k inside => ?_
    · simp [State.regBytes, Calendar.image, Stamp.bytes, DateTime.stamp, byteOf_toNat, flagNat]
    · simp only [List.length_cons, List.length_nil] at inside
      interval_cases k <;> rfl
  · refine State.showsEach_of .configFault ?_ rfl rfl fun k inside => ?_
    · simp [State.regBytes, byteOf_toNat]
    · simp only [List.length_cons, List.length_nil] at inside
      interval_cases k <;> rfl
  · intro a low high
    interval_cases a <;> rfl

/-! ### The LIVE page -/

theorem liveLatest_addresses : ∀ c : Fin 6, ∀ k < 4, registerAt .live (0x4A + 4 * c + k) = some (.liveLatest c, k) := by decide

/-- The view of a channel's latest value (R36). -/
theorem latestBytes_spec (latest : Option Latest) : ∃ head value, latestBytes latest = head :: value ∧ value.length = 3 ∧
    match latest with
    | none => head = 0 ∧ value = [0, 0, 0]
    | some l => head.toNat = (if l.tag = .b then 3 else 1) ∧ bigEndian value = l.value.toNat := by
  cases latest with
  | none => exact ⟨0, [0, 0, 0], rfl, rfl, rfl, rfl⟩
  | some l =>
    refine ⟨_, beBytes 3 l.value.toNat, rfl, rfl, ?_, ?_⟩
    · cases l.tag <;> rfl
    · rw [bigEndian_beBytes]
      exact Nat.mod_eq_of_lt l.value.isLt

/-- The LIVE page (Table 57). -/
theorem State.livePage_shown (s : State) : s.livePageShown := by
  refine ⟨?_, State.showsNumber_byteOf .liveTariff rfl rfl rfl rfl, ?_, State.showsNumber_byteOf .liveSecond rfl rfl rfl rfl,
    State.showsNumber_pair .liveCovered rfl rfl rfl rfl rfl, fun c => ?_, ?_⟩
  · cases tag : s.openTag
    · exact State.showsNumber_byteOf .liveTag (by simp [State.regBytes, tag, flagNat]) rfl rfl rfl
    · exact State.showsNumber_byteOf .liveTag (by simp [State.regBytes, tag, flagNat]) rfl rfl rfl
  · refine State.showsEach_of .liveStamp ?_ rfl rfl fun k inside => ?_
    · simp [State.regBytes, Stamp.bytes, Stamp.numbers, byteOf_toNat]
    · simp only [Stamp.numbers, List.length_cons, List.length_nil] at inside
      interval_cases k <;> rfl
  · obtain ⟨head, value, bytes, length, holds⟩ := latestBytes_spec s.main.latest[c]
    refine ⟨head, value, State.shows_of (.liveLatest c) bytes (by rw [List.length_cons, length]; rfl) rfl fun k inside => ?_, holds⟩
    exact liveLatest_addresses c k (by simpa [length] using inside)
  · intro a low high
    interval_cases a <;> rfl

/-! ### The pages of the staged set -/

/-- The bytes of channel entry i stand at 0x40 + 10 i (Table 57). -/
theorem channel_addresses : ∀ i : Fin 6, ∀ k < 10,
    registerAt .channels (0x40 + 10 * i.val + k) = some (.channel i (channelField k).1, (channelField k).2) := by decide

theorem dayType_addresses : ∀ i : Fin 7, registerAt .schedule (0x40 + i) = some (.dayType i, 0) := by decide

/-- A field of three bytes. -/
theorem State.showsNumber_offset (s : State) (i : Fin 6) :
    s.showsNumber .channels (0x40 + 10 * i.val + 5) .readWrite 3 s.cfg.staged.channels[i].offset.toNat := by
  refine State.showsNumber_of (.channel i .offset) (bigEndian_beBytes 3 _) rfl fun k inside => ?_
  have inside : k < 3 := inside
  rw [Nat.add_assoc, channel_addresses i (5 + k) (by omega)]
  interval_cases k <;> rfl

/-- The pages of the staged set (Table 57). -/
theorem State.stagedPages_shown (s : State) : s.stagedPagesShown := by
  have address := channel_addresses
  refine ⟨fun i => ?_, ?_, fun i => ?_, ?_, ?_, ?_, ?_, ?_, ?_, ?_⟩
  · exact ⟨State.showsNumber_byte (.channel i .enabled) rfl rfl rfl (address i 0 (by decide)),
      State.showsNumber_byte (.channel i .source) rfl rfl rfl (address i 1 (by decide)),
      State.showsNumber_byte (.channel i .mode) rfl rfl rfl (address i 2 (by decide)),
      State.showsNumber_byte (.channel i .overflow) rfl rfl rfl (address i 3 (by decide)),
      State.showsNumber_byte (.channel i .rounding) rfl rfl rfl (address i 4 (by decide)),
      s.showsNumber_offset i,
      State.showsNumber_pair (.channel i .gain) rfl rfl rfl (address i 8 (by decide)) (address i 9 (by decide))⟩
  · intro a low high
    interval_cases a <;> rfl
  · exact State.showsNumber_byte (.dayType i) rfl rfl rfl (dayType_addresses i)
  · exact State.showsNumber_byte .defaultTariff rfl rfl rfl rfl
  · exact State.showsNumber_byteOf .schedSlot rfl rfl rfl rfl
  · exact ⟨State.showsNumber_byte (.schedField 0) rfl rfl rfl rfl, State.showsNumber_byte (.schedField 1) rfl rfl rfl rfl,
      State.showsNumber_byte (.schedField 2) rfl rfl rfl rfl, State.showsNumber_byte (.schedField 3) rfl rfl rfl rfl,
      State.showsNumber_byte (.schedField 4) rfl rfl rfl rfl⟩
  · intro a low high
    interval_cases a <;> rfl
  · exact State.showsNumber_byteOf .specSlot rfl rfl rfl rfl
  · exact ⟨State.showsNumber_byte (.specField 0) rfl rfl rfl rfl, State.showsNumber_byte (.specField 1) rfl rfl rfl rfl,
      State.showsNumber_byte (.specField 2) rfl rfl rfl rfl, State.showsNumber_byte (.specField 3) rfl rfl rfl rfl,
      State.showsNumber_byte (.specField 4) rfl rfl rfl rfl, State.showsNumber_byte (.specField 5) rfl rfl rfl rfl⟩
  · intro a low high
    interval_cases a <;> rfl

/-! ### The SNAPSHOT page -/

theorem SnapshotImage.gate_valid {m : SnapshotImage} (valid : m.valid = true) (bytes : List Byte) : m.gate bytes = bytes := if_pos valid

theorem SnapshotImage.gate_invalid {m : SnapshotImage} (invalid : m.valid = false) (bytes : List Byte) :
    m.gate bytes = List.replicate bytes.length 0 := by simp [SnapshotImage.gate, invalid]

theorem snapView_addresses : ∀ k < 20, registerAt .snapshot (0x4D + k) = some (.snapView, k) := by decide

/-- The flags byte of the item view: bit 2 the total's overflow, bit 1 present, bit 0 the entry's overflow. -/
theorem viewFlags_bits : ∀ ovf present late : Bool,
    let f := byteOf (4 * flagNat ovf + (2 * flagNat present + flagNat late))
    f.getLsbD 2 = ovf ∧ f.toNat < 8 ∧ f.getLsbD 1 = present ∧ f.getLsbD 0 = late := by decide

/-- The parts of the item view while the image is valid (R126). -/
theorem SnapshotImage.view_spec (m : SnapshotImage) (item : Fin 6 × Fin 4) : ∃ t f d stamp,
    m.view item = t ++ f :: (d ++ stamp) ∧ t.length = 8 ∧ d.length = 6 ∧ stamp.length = 5 ∧
    bigEndian t = m.totals[item.1][item.2].value.toNat ∧ f.getLsbD 2 = m.totals[item.1][item.2].ovf ∧ f.toNat < 8 ∧
    match m.demand[item.1][item.2] with
    | none => f.getLsbD 1 = false ∧ f.getLsbD 0 = false ∧ bigEndian d = 0 ∧ bigEndian stamp = 0
    | some e => f.getLsbD 1 = true ∧ f.getLsbD 0 = e.ovf ∧ bigEndian d = e.value.toNat ∧
        stamp.map BitVec.toNat = e.stamp.numbers.map (· % 256) := by
  have total : bigEndian (beBytes 8 m.totals[item.1][item.2].value.toNat) = m.totals[item.1][item.2].value.toNat := by
    rw [bigEndian_beBytes]
    exact Nat.mod_eq_of_lt m.totals[item.1][item.2].value.isLt
  cases entry : m.demand[item.1][item.2] with
  | none =>
    obtain ⟨two, small, one, zero⟩ := viewFlags_bits m.totals[item.1][item.2].ovf false false
    exact ⟨_, _, List.replicate 6 0, List.replicate 5 0, by rw [SnapshotImage.view, entry]; rfl, rfl, rfl, rfl, total, two, small,
      one, zero, rfl, rfl⟩
  | some e =>
    obtain ⟨two, small, one, zero⟩ := viewFlags_bits m.totals[item.1][item.2].ovf true e.ovf
    refine ⟨_, _, beBytes 6 e.value.toNat, e.stamp.bytes, by rw [SnapshotImage.view, entry]; rfl, rfl, rfl, rfl, total, two, small,
      one, zero, ?_, ?_⟩
    · rw [bigEndian_beBytes]
      exact Nat.mod_eq_of_lt e.value.isLt
    · simp [Stamp.bytes, Stamp.numbers, byteOf_toNat]

/-- Bytes that are all 0 spell 0. -/
theorem bigEndian_zeros : ∀ n, bigEndian (List.replicate n 0) = 0
  | 0 => rfl
  | n + 1 => bigEndian_zeros n

/-- A gated register of the image shows its number while the image is valid, and 0 while it is not. -/
theorem State.showsNumber_gated (s : State) {a width n : Nat} {bytes : List Byte} (r : Reg)
    (gated : s.regBytes r = s.main.image.gate bytes) (number : bigEndian bytes = n % 256 ^ width) (length : bytes.length = width)
    (size : r.width = width) (rights : r.access = .readOnly) (here : ∀ k < width, registerAt .snapshot (a + k) = some (r, k)) :
    s.showsNumber .snapshot a .readOnly width (if s.main.image.valid then n else 0) := by
  rw [← size, ← rights]
  refine State.showsNumber_of r ?_ ?_ (size ▸ here)
  · cases valid : s.main.image.valid with
    | true => simpa [gated, SnapshotImage.gate_valid valid, size] using number
    | false =>
      rw [gated, SnapshotImage.gate_invalid valid, bigEndian_zeros]
      exact (Nat.zero_mod _).symm
  · cases valid : s.main.image.valid with
    | true => rw [gated, SnapshotImage.gate_valid valid, length, size]
    | false => rw [gated, SnapshotImage.gate_invalid valid, List.length_replicate, length, size]

/-- The snapshot time (Table 57). -/
theorem State.snapTime_numbers (s : State) : (s.regBytes .snapTime).map BitVec.toNat =
    (if s.main.image.valid then s.main.image.time.stamp.numbers ++ [s.main.image.time.second, if s.main.image.calValid then 1 else 0]
      else [0, 0, 0, 0, 0, 0, 0]).map (· % 256) := by
  cases valid : s.main.image.valid with
  | true =>
    rw [State.regBytes, SnapshotImage.gate_valid valid]
    simp [SnapshotImage.timeBytes, Stamp.bytes, Stamp.numbers, byteOf_toNat, flagNat]
  | false =>
    rw [State.regBytes, SnapshotImage.gate_invalid valid]
    rfl

/-- The SNAPSHOT page (Table 57). -/
theorem State.snapshotPage_shown (s : State) : s.snapshotPageShown := by
  refine ⟨State.showsNumber_byteOf .snapValid rfl rfl rfl rfl, ?_, ?_, ?_, ?_, ?_, ?_⟩
  · have length : (if s.main.image.valid then s.main.image.time.stamp.numbers ++ [s.main.image.time.second,
        if s.main.image.calValid then 1 else 0] else [0, 0, 0, 0, 0, 0, 0]).length = 7 := by
      cases s.main.image.valid <;> rfl
    refine State.showsEach_of .snapTime s.snapTime_numbers length.symm rfl fun k inside => ?_
    rw [length] at inside
    interval_cases k <;> rfl
  · refine s.showsNumber_gated .snapSequence rfl (bigEndian_beBytes 2 _) rfl rfl rfl fun k inside => ?_
    interval_cases k <;> rfl
  · have mark : (if s.main.image.valid = true ∧ s.main.image.lastSeqNone = true then 1 else 0) =
        if s.main.image.valid then flagNat s.main.image.lastSeqNone else 0 := by
      cases s.main.image.valid <;> simp [flagNat]
    rw [mark]
    refine s.showsNumber_gated .snapNone rfl (bigEndian_byteOf _) rfl rfl rfl fun k inside => ?_
    obtain rfl : k = 0 := by omega
    rfl
  · refine State.showsEach_of .snapItem ?_ rfl rfl fun k inside => ?_
    · simp [State.regBytes, byteOf_toNat]
    · simp only [List.length_cons, List.length_nil] at inside
      interval_cases k <;> rfl
  · obtain ⟨t, f, d, stamp, view, ht, hd, hs, total, ovf, small, entry⟩ := s.main.image.view_spec s.main.snapItem
    have length : (t ++ f :: (d ++ stamp)).length = 20 := by simp [ht, hd, hs]
    have bytes : s.regBytes .snapView = s.main.image.gate (t ++ f :: (d ++ stamp)) := by rw [State.regBytes, view]
    cases valid : s.main.image.valid with
    | true =>
      refine ⟨t, f, d, stamp, ?_, ht, hd, hs, ?_⟩
      · exact State.shows_of .snapView (bytes.trans (SnapshotImage.gate_valid valid _)) length.symm rfl
          fun k inside => snapView_addresses k (length ▸ inside)
      · rw [if_pos rfl]
        exact ⟨total, ovf, small, entry⟩
    | false =>
      refine ⟨List.replicate 8 0, 0, List.replicate 6 0, List.replicate 5 0, ?_, rfl, rfl, rfl, rfl⟩
      refine State.shows_of .snapView ?_ rfl rfl snapView_addresses
      rw [bytes, SnapshotImage.gate_invalid valid, length]
      rfl
  · intro a low high
    interval_cases a <;> rfl

/-- The numbers by which registers name their choices. -/
theorem registerCodes_hold : registerCodes := ⟨rfl, rfl, rfl, rfl, rfl⟩

/-- Settles O43: a slot sends the byte of the capture that `State.captured` takes or finds, and each page shows its registers. -/
theorem readsAreCoherent : Obligations.ReadsAreCoherent := by
  refine ⟨fun s a slot => ?_, fun s => ⟨s.fixedRegisters_shown, s.livePage_shown, s.stagedPages_shown, s.snapshotPage_shown⟩,
    registerCodes_hold⟩
  have ⟨_, _, _, pointer⟩ := slot
  have pointed := State.pointed_of pointer
  refine ⟨fun unused => ?_, fun r k used other => ⟨fun single => ?_, fun wide first field => ?_, fun bytes wide later field held => ?_,
    fun calendar fresh => ?_, fun bytes calendar held => ?_⟩⟩
  · refine exec_readSlot slot ?_ pointer
    simp [State.readByte, pointed, unused]
  · have inside := registerAt_lt used
    obtain rfl : k = 0 := by omega
    refine exec_readSlot slot ?_ pointer
    rw [State.readByte_of (pointed.trans used) other, State.captured_single s single]
  · subst first
    refine exec_readSlot slot ?_ pointer
    rw [State.readByte_of (pointed.trans used) other, State.captured_first s wide field, pointer]
  · refine exec_readSlot slot ?_ pointer
    rw [State.readByte_of (pointed.trans used) other, State.captured_later wide later field (pointer ▸ held)]
  · subst calendar
    refine exec_readSlot slot ?_ pointer
    rw [State.readByte_of (pointed.trans used) other, State.captured_calendar_first fresh]
  · subst calendar
    refine exec_readSlot slot ?_ pointer
    rw [State.readByte_of (pointed.trans used) other, State.captured_calendar_later held]

end Sys2Proof.Machine
end
